-- ==== Sys2Proof/Word.lean ====
section
/-! DEFINITION. The word types of the Flowedge 3216: bytes on the serial line and the 48-bit device time (R30, R152). -/

namespace Sys2Proof

/-- One byte of a frame on the serial line (R152). -/
abbrev Byte := BitVec 8

/-- Device time, an unsigned 48-bit count of microseconds that continues at 0 after 2^48 − 1 (R30). -/
abbrev Time := BitVec 48

end Sys2Proof
end

