-- ==== Sys2Proof/Syntax.lean ====
section
/-! DEFINITION. The steps of the Flowedge 3216: one constructor per row of spec/opcode_table.json. -/

namespace Sys2Proof

/-- The level of a line (R33, R39). -/
inductive Level where
  | low
  | high
deriving DecidableEq, Repr

/-- A character on RXD (R151): its data bits, the level at which its stop bit is sampled (a byte, when that is high), and for how
many periods of REFCLK RXD had been high when the falling edge of its start bit came. -/
structure RxCharacter where
  data : Byte
  stop : Level
  high : Nat
deriving DecidableEq, Repr

/-- One step of the part. The rows that are host commands carry no operand here: R159 has the Command Interpreter take the
OLDEST FRAME OF THE RECEIVE BUFFER, so the tag and every field of the command are the bytes of that frame. An event of
the machine side names the line or the job it concerns; a pin event carries what the part samples at it. -/
inductive Instr where
  /-- IDENT (R176): intake of a frame of kind 0x01. -/
  | ident
  /-- DEFINE (R6): intake of a frame of kind 0x02. -/
  | define
  /-- START (R8): intake of a frame of kind 0x03. -/
  | start
  /-- STOP (R12–R14): intake of a frame of kind 0x04. -/
  | stop
  /-- HOLD (R15): intake of a frame of kind 0x05. -/
  | hold
  /-- RESUME (R16): intake of a frame of kind 0x06. -/
  | resume
  /-- ALTER (R17, R18): intake of a frame of kind 0x07. -/
  | alter
  /-- READ (R19): intake of a frame of kind 0x08. -/
  | read
  /-- DELETE (R20): intake of a frame of kind 0x09. -/
  | delete
  /-- LIST (R20): intake of a frame of kind 0x0A. -/
  | list
  /-- ACK (R140): intake of a frame of kind 0x0B. -/
  | ack
  /-- RECONNECT (R146): intake of a frame of kind 0x0C. -/
  | reconnect
  /-- LINKCFG (R147): intake of a frame of kind 0x0D. -/
  | linkcfg
  /-- LINECFG (R35): intake of a frame of kind 0x0E. -/
  | linecfg
  /-- DRIVE (R41): intake of a frame of kind 0x0F. -/
  | drive
  /-- SENSE (R42): intake of a frame of kind 0x10. -/
  | sense
  /-- TIME (R31): intake of a frame of kind 0x11. -/
  | time
  /-- LINKSTAT (R161): intake of a frame of kind 0x12. -/
  | linkstat
  /-- RESET (R162): intake of a frame of kind 0x13. -/
  | reset
  /-- UNKNOWN_KIND (R166): intake of a frame of any other kind. -/
  | unknownKind
  /-- CHANGE_UNDER_FILTERING (R33): a sample of input line `line` (0–15) shows `level`. -/
  | changeUnderFiltering (line : Nat) (level : Level)
  /-- EDGE_ACCEPTANCE (R34): the change under filtering on input line `line` (0–15) is accepted. -/
  | edgeAcceptance (line : Nat)
  /-- EDGE_DELIVERY (R36): the oldest outstanding delivery of an edge to job `job` (1–32) is taken. -/
  | edgeDelivery (job : Nat)
  /-- EXPIRY (R87): the head of the schedule, an EXPIRY entry, falls due. -/
  | expiry
  /-- TICK (R92): the head of the schedule, a TICK entry, falls due. -/
  | tick
  /-- STALL (R71): the head of the schedule, a STALL entry, falls due. -/
  | stall
  /-- WINDOW_END (R68): the head of the schedule, a WINDOW entry, falls due. -/
  | windowEnd
  /-- ECHO_DUE (R114): the head of the schedule, an ECHO_DUE entry, falls due. -/
  | echoDue
  /-- ACTIVE_PHASE_EVENT (R102): the cell of WAVE job `job` (1–32) ends the active phase. -/
  | activePhaseEvent (job : Nat)
  /-- PERIOD_END (R103): the cell of WAVE job `job` (1–32) ends the idle phase, and with it the period. -/
  | periodEnd (job : Nat)
  /-- PULSE_END (R115): the cell of ECHO job `job` (1–32) ends a pulse. -/
  | pulseEnd (job : Nat)
  /-- TURN_END (R100): the cell of WAVE job `job` (1–32) ends a turn of a long phase. -/
  | turnEnd (job : Nat)
  /-- RETRANSMIT_TIMER_EXPIRY (R143). -/
  | retransmitTimerExpiry
  /-- LOSS_POLICY (R145): the oldest outstanding application of the loss policy to job `job` (1–32) is taken. -/
  | lossPolicy (job : Nat)
  /-- BYTE_RECEIVED (R151, R154): the stop bit of a character is sampled. -/
  | byteReceived (byte : RxCharacter)
  /-- GAP_EXPIRY (R155). -/
  | gapExpiry
  /-- BREAK (R156): RXD has been low for 2 ms. -/
  | breakSeen
  /-- TX_FRAME_END (R160): the last byte of the frame in transmission, not a RESET reply of status OK, leaves TXD. -/
  | txFrameEnd
  /-- COMMAND_RESET_EXECUTION (R163): the last byte of the RESET reply leaves TXD. Bit n of `inputs` is set when the first
  sample of INn after the execution is HIGH (R38). -/
  | commandResetExecution (inputs : BitVec 16)
  /-- PIN_RESET (R44): RESET_N has been low for 2 µs. -/
  | pinReset
  /-- PIN_RESET_COMPLETION (R44): RESET_N returns high. Bit 1 of `straps` is set when BAUD1 is HIGH, bit 0 when BAUD0 is;
  bit n of `inputs` when the first sample of INn is HIGH. -/
  | pinResetCompletion (straps : BitVec 2) (inputs : BitVec 16)
  /-- POWER_ON_RESET (R44): supply is applied. -/
  | powerOnReset
  /-- POWER_ON_RESET_COMPLETION (R44): the internal power-on reset would complete; operands as at PIN_RESET_COMPLETION. -/
  | powerOnResetCompletion (straps : BitVec 2) (inputs : BitVec 16)
  /-- BREAK_END (R156): RXD returns high after a break. -/
  | breakEnd
  /-- REFCLK_STOPPED (R30). -/
  | refclkStopped
  /-- REFCLK_RESUMED (R30). -/
  | refclkResumed
deriving DecidableEq, Repr

end Sys2Proof
end

