-- ==== Sys2Proof/WellFormed.lean ====
section
/-! DEFINITION. Which terms of `Instr` name a line or a job that the part has. -/

namespace Sys2Proof

/-- Input lines are IN0–IN15 (00_scope, Conventions). -/
def inputLineOk (line : Nat) : Bool := decide (line < 16)

/-- Jobs are numbered 1–32; 0 means "no job" (00_scope, Conventions). -/
def jobNumberOk (job : Nat) : Bool := decide (1 ≤ job) && decide (job ≤ 32)

/-- Every line and every job that the step names exists. -/
def wellFormed : Instr → Bool
  | .ident => true
  | .define => true
  | .start => true
  | .stop => true
  | .hold => true
  | .resume => true
  | .alter => true
  | .read => true
  | .delete => true
  | .list => true
  | .ack => true
  | .reconnect => true
  | .linkcfg => true
  | .linecfg => true
  | .drive => true
  | .sense => true
  | .time => true
  | .linkstat => true
  | .reset => true
  | .unknownKind => true
  | .changeUnderFiltering line _ => inputLineOk line
  | .edgeAcceptance line => inputLineOk line
  | .edgeDelivery job => jobNumberOk job
  | .expiry => true
  | .tick => true
  | .stall => true
  | .windowEnd => true
  | .echoDue => true
  | .activePhaseEvent job => jobNumberOk job
  | .periodEnd job => jobNumberOk job
  | .pulseEnd job => jobNumberOk job
  | .turnEnd job => jobNumberOk job
  | .retransmitTimerExpiry => true
  | .lossPolicy job => jobNumberOk job
  | .byteReceived _ => true
  | .gapExpiry => true
  | .breakSeen => true
  | .txFrameEnd => true
  | .commandResetExecution _ => true
  | .pinReset => true
  | .pinResetCompletion _ _ => true
  | .powerOnReset => true
  | .powerOnResetCompletion _ _ => true
  | .breakEnd => true
  | .refclkStopped => true
  | .refclkResumed => true

end Sys2Proof
end

