-- ==== Sys2Proof/Decode.lean ====
section
/-! DEFINITION. The decoder over the rows of spec/opcode_table.json that give bits. No row does: the 3216 is a block, its
host commands reach it as frames (R152) and its other steps are events, so no word spells a row. -/

namespace Sys2Proof

/-- The command that an `nbits`-bit word spells by the table's bits. No row of the table gives bits. -/
def decodeTableWord (_nbits _w : Nat) : Option Instr := none

end Sys2Proof
end

