-- ==== Sys2Proof/Config.lean ====
section
/-! DEFINITION. What one part fixes (family code, revision, the reset defaults of its settings) and the free values:
constants with no body, of which nothing can be proved, for what the manual leaves open. -/

namespace Sys2Proof.Config

/-- The part revision that IDENT and the RESTART report carry (R176). -/
def partRevision : Byte := 0x01#8

/-- The family code, high byte and low byte (R176). -/
def familyCode : List Byte := [0x32#8, 0x16#8]

/-- The filter setting of every input line after any reset, in µs (R38). -/
def defaultFilter : Nat := 2

/-- The retransmit interval after any reset, in ms (R149). -/
def defaultInterval : Nat := 200

/-- The retry limit after any reset (R149). -/
def defaultRetryLimit : Nat := 4

/-- FREE VALUE (log entry 1). Which of several events that are enabled at one device time is taken first; R22 and
R36 say that either may be. Applied to the counter `Part.choices`. -/
opaque eventChoice : Nat → Nat

/-- FREE VALUE (log entry 2). The time to stall that READ shows for a STALL entry whose due time lies before the snapshot
(R78 gives no value), from the due time and the snapshot time. -/
opaque overdueStall : Time → Time → Nat

/-- FREE VALUE (log entry 2). The time remaining that READ shows of a RATE window whose end lies before the snapshot (R78 gives
no value), from that end and the snapshot time. -/
opaque overdueWindow : Time → Time → Nat

/-- FREE VALUE (log entry 2). The time to phase end that READ shows of a WAVE phase whose end lies before the snapshot (R108
gives no value), from that end and the snapshot time. -/
opaque overduePhase : Time → Time → Nat

/-- FREE VALUE (log entry 2). The time to the pulse's end that READ shows of an ECHO pulse whose end lies before the snapshot
(R120 gives no value), from that end and the snapshot time. -/
opaque overduePulse : Time → Time → Nat

end Sys2Proof.Config
end

