-- ==== Sys2Proof/Machine/State.lean ====
section
/-! DEFINITION. The state of the Flowedge 3216, block by block (00_scope, Block Diagram), the queue of the steps that wait,
and the state right after a power-on reset (R29, R38, R43, R149, R164). -/

namespace Sys2Proof.Machine

open Sys2Proof

/-- A job by its place in the Job Table: job number n is `n - 1` here (R1). -/
abbrev JobId := Fin 32
/-- An input line IN0–IN15. -/
abbrev InId := Fin 16
/-- An output line OUT0–OUT7. -/
abbrev OutId := Fin 8
/-- A counter cell C0–C23 (R23). -/
abbrev CellId := Fin 24

/-! ### The job record (R1) -/

/-- The seven job states (R1). -/
inductive JobState where
  | free | defined | armed | running | held | stopping | ended
deriving DecidableEq, Repr

/-- The six job kinds (R1). -/
inductive JobKind where
  | count | measure | delay | tick | wave | echo
deriving DecidableEq, Repr

/-- The polarity of an edge (R34). -/
inductive Polarity where
  | rising | falling
deriving DecidableEq, Repr

/-- Which edges a COUNT job or a RATE window counts (R45, R60). -/
inductive EdgeSelect where
  | rising | falling | both
deriving DecidableEq, Repr

/-- The start mode of a definition (R1). -/
inductive StartMode where
  | immediate
  | onLink
  | onEdge (line : InId) (polarity : Polarity)
deriving DecidableEq, Repr

/-- The end action of a definition (R122). -/
inductive EndAction where
  | start (target : JobId)
  | stop (target : JobId)
deriving DecidableEq, Repr

/-- The output line that a definition names, with its idle level (R1). -/
structure OutputUse where
  line : OutId
  idle : Level
deriving DecidableEq, Repr

/-- The gate of a COUNT job (R45). -/
structure Gate where
  line : InId
  level : Level
deriving DecidableEq, Repr

/-- The width of a count (R45). -/
inductive CountWidth where
  | w16 | w32
deriving DecidableEq, Repr

/-- COUNT parameters (R45). -/
structure CountParams where
  source : InId
  edge : EdgeSelect
  width : CountWidth
  gate : Option Gate
  limit : Nat
  step : Nat
deriving DecidableEq, Repr

/-- COUNT progress (R45). While the job is live its count stands in its cells; `count` is 0 in DEFINED and keeps the count
at the end in ENDED. -/
structure CountProgress where
  count : Nat
  blocked : Nat
deriving DecidableEq, Repr

/-- The mode of a MEASURE job; the rate edge and the window length exist in RATE mode only (R60, R61). -/
inductive MeasureMode where
  | period
  | high
  | low
  | rate (edge : EdgeSelect) (window : Nat)
deriving DecidableEq, Repr

/-- MEASURE parameters (R60). A limit of 0 means no limit. -/
structure MeasureParams where
  source : InId
  mode : MeasureMode
  lowLimit : Nat
  highLimit : Nat
  stall : Bool
  reportInterval : Nat
deriving DecidableEq, Repr

/-- An open interval: the edge time of its opening edge, and whether it has been open so long that its sample is
4,294,967,295 whatever the difference modulo 2^48 says (R65, "the age of its open interval"). -/
structure OpenInterval where
  openedAt : Time
  aged : Bool
deriving DecidableEq, Repr

/-- MEASURE progress (R62). -/
structure MeasureProgress where
  accepted : Nat
  last : Option Nat
  minimum : Option Nat
  maximum : Option Nat
  sinceReport : Nat
  interval : Option OpenInterval
  stallRef : Option Time
  windowStart : Option Time
deriving DecidableEq, Repr

/-- DELAY parameters (R85). -/
structure DelayParams where
  duration : Nat
deriving DecidableEq, Repr

/-- DELAY progress (R85). -/
structure DelayProgress where
  remaining : Nat
deriving DecidableEq, Repr

/-- TICK parameters (R91). -/
structure TickParams where
  period : Nat
  limit : Nat
deriving DecidableEq, Repr

/-- TICK progress (R91); ticks done wraps. -/
structure TickProgress where
  ticksDone : BitVec 32
  remaining : Nat
deriving DecidableEq, Repr

/-- WAVE parameters (R101). -/
structure WaveParams where
  period : Nat
  width : Nat
  limit : Nat
deriving DecidableEq, Repr

/-- The phase of a WAVE period (R101). -/
inductive WavePhase where
  | active | idle
deriving DecidableEq, Repr

/-- WAVE progress (R101); pulses wraps. -/
structure WaveProgress where
  pulses : BitVec 32
  phase : Option WavePhase
  periodStart : Option Time
  turnsLeft : Nat
deriving DecidableEq, Repr

/-- The overlap policy of an ECHO job (R110). -/
inductive Overlap where
  | queue | replace | ignore
deriving DecidableEq, Repr

/-- ECHO parameters (R110). -/
structure EchoParams where
  source : InId
  edge : Polarity
  delay : Nat
  width : Nat
  overlap : Overlap
  limit : Nat
deriving DecidableEq, Repr

/-- An entry of the pending list of an ECHO job (R110). -/
structure PendingPulse where
  due : Time
  width : Nat
deriving DecidableEq, Repr

/-- The pulse in progress of an ECHO job (R110). -/
structure Pulse where
  beginTime : Time
  endTime : Time
deriving DecidableEq, Repr

/-- ECHO progress (R110); pulses wraps, the other counts saturate. -/
structure EchoProgress where
  pendingList : List PendingPulse
  pulse : Option Pulse
  pulses : BitVec 32
  missed : Nat
  slipped : Nat
  cut : Nat
deriving DecidableEq, Repr

/-- The kind of a job with its parameters and its progress (R1). -/
inductive Work where
  | count (params : CountParams) (progress : CountProgress)
  | measure (params : MeasureParams) (progress : MeasureProgress)
  | delay (params : DelayParams) (progress : DelayProgress)
  | tick (params : TickParams) (progress : TickProgress)
  | wave (params : WaveParams) (progress : WaveProgress)
  | echo (params : EchoParams) (progress : EchoProgress)
deriving DecidableEq, Repr

/-- A staged alteration (R1). -/
inductive Staged where
  | period (period : Nat)
  | pair (period width : Nat)
deriving DecidableEq, Repr

/-- The end causes (R28). -/
inductive EndCause where
  | limitReached | overflow | highExceeded | lowExceeded | stall | expired | hostStop | linkedStop | linkLost
deriving DecidableEq, Repr

/-- The link outcomes (R127). -/
inductive LinkOutcome where
  | none | done | targetBusy | targetIdle | targetFree | lineBusy | noCells | noRoom | suppressed
deriving DecidableEq, Repr

/-- The result of a run (R1). -/
structure Result where
  cause : EndCause
  final : Nat
  aux : Nat
  endTime : Time
  outcome : LinkOutcome
deriving DecidableEq, Repr

/-- What DEFINE gives a job, with the progress of its kind and the RUNNING entry time that stands in the progress
(R1, R11). -/
structure Definition where
  startMode : StartMode
  endAction : Option EndAction
  output : Option OutputUse
  entryTime : Time
  work : Work
deriving DecidableEq, Repr

/-- One job record (R1). `defn` is present in every state except FREE; `cells` has the low half first. -/
structure Job where
  state : JobState
  defn : Option Definition
  run : BitVec 8
  cells : List CellId
  staged : Option Staged
  result : Option Result
  lost : Nat
  reservation : Bool
deriving DecidableEq, Repr

/-- A job that is FREE, as every reset leaves it (R29). -/
def Job.free : Job :=
  { state := .free, defn := none, run := 0#8, cells := [], staged := none, result := none, lost := 0, reservation := false }

/-! ### Lines, cells and the schedule -/

/-- A level change under filtering (R33). -/
structure LineChange where
  level : Level
  firstSeen : Time
  filterTime : Nat
deriving DecidableEq, Repr

/-- An input line (section 2.2). The level last sampled is the new level of the change under filtering when there is one
and the filtered level otherwise, so it has no field of its own. -/
structure InputLine where
  filter : Nat
  filtered : Level
  change : Option LineChange
deriving DecidableEq, Repr

/-- An input line as a reset leaves it when its first sample shows `level` (R38). -/
def InputLine.fresh (level : Level) : InputLine :=
  { filter := Config.defaultFilter, filtered := level, change := none }

/-- An accepted edge (R34). -/
structure Edge where
  line : InId
  polarity : Polarity
  edgeTime : Time
  acceptance : Time
deriving DecidableEq, Repr

/-- A delivery of an accepted edge that its watcher has not taken yet (R36), with the state the watcher was in at the
acceptance (R48). -/
structure Delivery where
  job : JobId
  edge : Edge
  acceptedIn : JobState
deriving DecidableEq, Repr

/-- An output line (section 2.3). -/
structure OutputLine where
  level : Level
  owner : Option JobId
deriving DecidableEq, Repr

/-- An output line LOW and unowned, as every reset leaves it (R43). -/
def OutputLine.fresh : OutputLine := { level := .low, owner := none }

/-- The phase that a cell in timing use measures out (R25, R100). -/
structure CellPhase where
  start : Time
  length : Nat
deriving DecidableEq, Repr

/-- A counter cell (R23): its holder, its 16-bit count in counting use (R24), its phase in timing use (R25). -/
structure Cell where
  owner : Option JobId
  count : BitVec 16
  phase : Option CellPhase
deriving DecidableEq, Repr

/-- A free cell, with count 0 (R23). -/
def Cell.free : Cell := { owner := none, count := 0#16, phase := none }

/-- The purposes of deadline entries (section 5.1). -/
inductive Purpose where
  | expiry | tick | stall | window | echoDue
deriving DecidableEq, Repr

/-- A deadline entry (section 5.1). -/
structure DeadlineEntry where
  due : Time
  job : JobId
  purpose : Purpose
deriving DecidableEq, Repr

/-! ### The Report Queue and the Delivery Controller -/

/-- What a RESTART report gives as the cause of the reset (R150). -/
inductive ResetCause where
  | power | pin | command
deriving DecidableEq, Repr

/-- The content of a report, by its kind (R132). -/
inductive ReportContent where
  | restart (cause : ResetCause) (revision : Byte)
  | progress (count : Nat)
  | sample (value accepted : Nat)
  | tick (number : BitVec 32) (merged : Nat)
  | ended (cause : EndCause) (final aux : Nat) (outcome : LinkOutcome)
deriving DecidableEq, Repr

/-- The delivery states of a queue entry (R138). -/
inductive DeliveryState where
  | new | sent | resend
deriving DecidableEq, Repr

/-- An entry of the Report Queue (R132). `job` is absent for RESTART (number 0). `thisStart` says that no start of the job has
succeeded since the admission: the queue's side of the coalescing test (R93, R136). -/
structure ReportEntry where
  seq : BitVec 16
  job : Option JobId
  run : BitVec 8
  time : Time
  lost : Nat
  content : ReportContent
  delivery : DeliveryState
  thisStart : Bool
deriving DecidableEq, Repr

/-- The loss policies (R145). -/
inductive LossPolicy where
  | carryOn | holdAll | stopAll
deriving DecidableEq, Repr

/-- The link states (R144). -/
inductive LinkState where
  | up | lost
deriving DecidableEq, Repr

/-- One application of the loss policy that its job has not taken yet (R145): the policy in force at the entry to LOST,
and the device time of that entry. -/
structure LossDelivery where
  job : JobId
  policy : LossPolicy
  lostAt : Time
deriving DecidableEq, Repr

/-- The Report Queue and the Delivery Controller (section 8). `interval` is in ms. -/
structure Reporter where
  queue : List ReportEntry
  reservations : Nat
  nextSeq : BitVec 16
  link : LinkState
  retry : Nat
  timer : Option Time
  interval : Nat
  retryLimit : Nat
  policy : LossPolicy
  lossDeliveries : List LossDelivery
deriving DecidableEq, Repr

/-- The Delivery Controller with its defaults (R149) and an empty queue. -/
def Reporter.fresh : Reporter :=
  { queue := [], reservations := 0, nextSeq := 0#16, link := .up, retry := 0, timer := none,
    interval := Config.defaultInterval, retryLimit := Config.defaultRetryLimit, policy := .holdAll, lossDeliveries := [] }

/-- The RESTART report as it stands after its admission (R149, R150). -/
def restartEntry (cause : ResetCause) (t : Time) : ReportEntry :=
  { seq := 0#16, job := none, run := 0#8, time := t, lost := 0, content := .restart cause Config.partRevision,
    delivery := .new, thisStart := true }

/-- The Delivery Controller after a reset whose RESTART report carries `cause` and the time `t` (R149). -/
def Reporter.restarted (cause : ResetCause) (t : Time) : Reporter :=
  { Reporter.fresh with queue := [restartEntry cause t], nextSeq := 1#16 }

/-! ### The Host Port -/

/-- The baud rates (R151). -/
inductive Baud where
  | b115200 | b230400 | b460800 | b921600
deriving DecidableEq, Repr

/-- The receiver states (R154). -/
inductive RxState where
  | hunt | length | body | check | closed
deriving DecidableEq, Repr

/-- The frame under reception: the bytes taken so far, the sync byte first, with the number of bytes still expected in the
present receiver state (0 in LENGTH, where none is known yet) (section 9). -/
structure RxFrame where
  taken : List Byte
  expected : Nat
deriving DecidableEq, Repr

/-- A frame without its sync byte, length and CRC, which R152 and R153 compute from these (R152). -/
structure Frame where
  kind : Byte
  tag : Byte
  payload : List Byte
deriving DecidableEq, Repr

/-- The transmitter: IDLE, or SENDING a frame begun at a device time (R160). -/
inductive Transmitter where
  | idle
  | sending (frame : Frame) (began : Time)
deriving DecidableEq, Repr

/-- The six error counters (R158). -/
structure ErrorCounters where
  noise : Nat
  badFrameLength : Nat
  gap : Nat
  crc : Nat
  breaks : Nat
  overrun : Nat
deriving DecidableEq, Repr

/-- All six counters at 0 (R158). -/
def ErrorCounters.zero : ErrorCounters :=
  { noise := 0, badFrameLength := 0, gap := 0, crc := 0, breaks := 0, overrun := 0 }

/-- The Host Port (section 9). `inBreak` says that RXD has been low for 2 ms and has not returned high (R156);
`rxAwaitsHigh` that, since a reset or a break, no start bit has come that RXD had been high for one character time before
(R151); `rxReadyAt`, while present, is the earliest byte time of a character that began after that moment (R151, log entry 9); it
is gone once reached. -/
structure Port where
  baud : Baud
  rxState : RxState
  rxFrame : Option RxFrame
  gapExpiry : Option Time
  rxBuffer : List Frame
  replies : List Frame
  tx : Transmitter
  errors : ErrorCounters
  resetPending : Bool
  inBreak : Bool
  rxAwaitsHigh : Bool
  rxReadyAt : Option Time
deriving DecidableEq, Repr

/-- The port after a power-on or pin reset at the given baud (R164): the receiver waits for RXD high (R151). -/
def Port.fresh (baud : Baud) (rxReadyAt : Option Time) : Port :=
  { baud := baud, rxState := .hunt, rxFrame := none, gapExpiry := none, rxBuffer := [], replies := [], tx := .idle,
    errors := ErrorCounters.zero, resetPending := false, inBreak := false, rxAwaitsHigh := true,
    rxReadyAt := rxReadyAt }

/-! ### The part and the state -/

/-- Which reset holds the part (R44). `powerWaiting` is a power-on reset whose completion waits for RESET_N to rise. -/
inductive ResetHold where
  | none | pin | power | powerWaiting
deriving DecidableEq, Repr

/-- Everything the 3216 holds. `choices` is the model's own: the counter to which `Config.eventChoice` is applied. -/
structure Part where
  time : Time
  refclk : Bool
  resetHold : ResetHold
  resetN : Level
  inputs : Vector InputLine 16
  deliveries : List Delivery
  outputs : Vector OutputLine 8
  cells : Vector Cell 24
  jobs : Vector Job 32
  schedule : List DeadlineEntry
  reports : Reporter
  port : Port
  choices : Nat
deriving DecidableEq, Repr

/-- The part and the queue of the steps that wait, first in, first out. -/
structure State extends Part where
  pending : List Instr
deriving DecidableEq, Repr

/-- Why the machine would stop with a fault. No step of the 3216 does: every rule gives its step an effect or says that the
step does not take place. -/
inductive Fault where
  /-- Raised by no meaning; the type has a constructor so that it is a plain closed type. Safe: nothing rests on it. -/
  | unused
deriving DecidableEq, Repr

/-- Why a step has no meaning. -/
inductive Refusal where
  /-- Raised by exec for a row that has no meaning yet. Safe: the machine stops. No arm of this model answers it. -/
  | notModelled (mnemonic : String)
  /-- Raised by a meaning whose operand names an input line other than IN0–IN15 (an ill-formed term). Safe: the machine
  stops; no such line exists in the part. -/
  | noSuchLine
  /-- Raised by a meaning whose operand names a job other than 1–32 (an ill-formed term). Safe: the machine stops; no such
  job exists in the part. -/
  | noSuchJob
deriving DecidableEq, Repr

/-- The part right after a power-on reset has completed: R29, R38, R43, R149, R151 and R164. The straps are taken as LOW, the
input lines as LOW (log entry 3); the RESTART report carries cause POWER and time 0 (R150); 82 µs are the 9.5 bit times
that the first character needs at 115,200 baud (R151, log entry 9). -/
def Part.reset : Part :=
  { time := 0#48
    refclk := true
    resetHold := .none
    resetN := .high
    inputs := Vector.replicate 16 (InputLine.fresh .low)
    deliveries := []
    outputs := Vector.replicate 8 OutputLine.fresh
    cells := Vector.replicate 24 Cell.free
    jobs := Vector.replicate 32 Job.free
    schedule := []
    reports := Reporter.restarted .power 0#48
    port := Port.fresh .b115200 (some 82#48)
    choices := 0 }

/-- The machine right after reset, with no step waiting. -/
def State.reset : State := { toPart := Part.reset, pending := [] }

end Sys2Proof.Machine
end

