-- ==== Sys2Proof/Machine/Operands.lean ====
section
/-! DEFINITION. How operands and results are spelled: jobs and lines named by a step, big-endian fields of a payload, the codes
of R167 and R168, the frame on the line and its CRC (R152, R153, R165–R168). -/

namespace Sys2Proof.Machine

open Sys2Proof

/-! ### Jobs and lines named by a step -/

/-- The job a number names; 1–32 only (R5). -/
def jobOfNumber (n : Nat) : Option JobId :=
  if jobNumberOk n then some (Fin.ofNat 32 (n - 1)) else none

/-- The number of a job, 1–32 (R1). -/
def jobNumber (j : JobId) : Nat := j.val + 1

/-- The job number of an optional job: 0 means "no job" (00_scope, Conventions). -/
def ownerNumber : Option JobId → Nat
  | none => 0
  | some j => jobNumber j

/-- The input line a number names; 0–15 only. -/
def inputOfNumber (n : Nat) : Option InId :=
  if inputLineOk n then some (Fin.ofNat 16 n) else none

/-! ### Big-endian fields (R165) -/

/-- The number that bytes spell, most significant byte first. -/
def beNat (bytes : List Byte) : Nat := bytes.foldl (fun n b => n * 256 + b.toNat) 0

/-- `width` bytes that spell `v` modulo 2^(8·width), most significant byte first. -/
def beBytes : (width : Nat) → (v : Nat) → List Byte
  | 0, _ => []
  | w + 1, v => BitVec.ofNat 8 (v / 256 ^ w) :: beBytes w v

/-- The field of `width` bytes that stands at byte `offset` of a payload. -/
def field (payload : List Byte) (offset width : Nat) : Nat := beNat ((payload.drop offset).take width)

/-- A device time as 6 bytes (section 10, opening). -/
def timeBytes (t : Time) : List Byte := beBytes 6 t.toNat

/-- A yes/no field (R168). -/
def yesNo (b : Bool) : List Byte := [if b then 0x01#8 else 0x00#8]

/-- Bits packed into a number, the first of the list in bit 0 (R177). -/
def packBits : List Bool → Nat
  | [] => 0
  | b :: bs => (if b then 1 else 0) + 2 * packBits bs

/-! ### Codes (R167, R168) -/

/-- The status codes of replies (R167). -/
inductive Status where
  | ok | unknownKind | badLength | badJob | badLine | badParam | wrongState | wrongKind | noCells | lineBusy | noRoom
  | badAck
deriving DecidableEq, Repr

def Status.code : Status → Nat
  | .ok => 0 | .unknownKind => 1 | .badLength => 2 | .badJob => 3 | .badLine => 4 | .badParam => 5 | .wrongState => 6
  | .wrongKind => 7 | .noCells => 8 | .lineBusy => 9 | .noRoom => 10 | .badAck => 11

def JobKind.code : JobKind → Nat
  | .count => 1 | .measure => 2 | .delay => 3 | .tick => 4 | .wave => 5 | .echo => 6

def JobKind.ofCode : Nat → Option JobKind
  | 1 => some .count | 2 => some .measure | 3 => some .delay | 4 => some .tick | 5 => some .wave | 6 => some .echo
  | _ => none

def JobState.code : JobState → Nat
  | .free => 0 | .defined => 1 | .armed => 2 | .running => 3 | .held => 4 | .stopping => 5 | .ended => 6

def Polarity.code : Polarity → Nat
  | .rising => 1 | .falling => 2

def Polarity.ofCode : Nat → Option Polarity
  | 1 => some .rising | 2 => some .falling | _ => none

def EdgeSelect.ofCode : Nat → Option EdgeSelect
  | 1 => some .rising | 2 => some .falling | 3 => some .both | _ => none

def levelCode : Level → Nat
  | .low => 0 | .high => 1

def levelOfCode : Nat → Option Level
  | 0 => some .low | 1 => some .high | _ => none

/-- The level a set or clear bit of a sample stands for. -/
def levelOfBit (b : Bool) : Level := if b then .high else .low

def StartMode.code : StartMode → Nat
  | .immediate => 0 | .onLink => 1 | .onEdge _ _ => 2

def EndAction.code : Option EndAction → Nat
  | none => 0 | some (.start _) => 1 | some (.stop _) => 2

def EndAction.targetNumber : Option EndAction → Nat
  | none => 0 | some (.start t) => jobNumber t | some (.stop t) => jobNumber t

def MeasureMode.code : MeasureMode → Nat
  | .period => 1 | .high => 2 | .low => 3 | .rate _ _ => 4

def Overlap.code : Overlap → Nat
  | .queue => 1 | .replace => 2 | .ignore => 3

def Overlap.ofCode : Nat → Option Overlap
  | 1 => some .queue | 2 => some .replace | 3 => some .ignore | _ => none

def LossPolicy.code : LossPolicy → Nat
  | .carryOn => 0 | .holdAll => 1 | .stopAll => 2

def LossPolicy.ofCode : Nat → Option LossPolicy
  | 0 => some .carryOn | 1 => some .holdAll | 2 => some .stopAll | _ => none

def LinkState.code : LinkState → Nat
  | .up => 0 | .lost => 1

def EndCause.code : EndCause → Nat
  | .limitReached => 1 | .overflow => 2 | .highExceeded => 3 | .lowExceeded => 4 | .stall => 5 | .expired => 6
  | .hostStop => 7 | .linkedStop => 8 | .linkLost => 9

def LinkOutcome.code : LinkOutcome → Nat
  | .none => 0 | .done => 1 | .targetBusy => 2 | .targetIdle => 3 | .targetFree => 4 | .lineBusy => 5 | .noCells => 6
  | .noRoom => 7 | .suppressed => 8

def ResetCause.code : ResetCause → Nat
  | .power => 1 | .pin => 2 | .command => 3

def WavePhase.code : Option WavePhase → Nat
  | none => 0 | some .active => 1 | some .idle => 2

/-- The baud that the straps give: bit 1 is BAUD1, bit 0 is BAUD0 (R151). -/
def Baud.ofStraps (straps : BitVec 2) : Baud :=
  match straps.getLsbD 1, straps.getLsbD 0 with
  | false, false => .b115200
  | false, true => .b230400
  | true, false => .b460800
  | true, true => .b921600

def Baud.rate : Baud → Nat
  | .b115200 => 115200 | .b230400 => 230400 | .b460800 => 460800 | .b921600 => 921600

/-- The kind of a definition (R1). -/
def Work.kind : Work → JobKind
  | .count _ _ => .count
  | .measure _ _ => .measure
  | .delay _ _ => .delay
  | .tick _ _ => .tick
  | .wave _ _ => .wave
  | .echo _ _ => .echo

/-! ### The frame on the line and its CRC (R152, R153) -/

/-- One bit into the CRC register (R153). -/
def crcBit (register : BitVec 16) (bit : Bool) : BitVec 16 :=
  if bit != register.msb then (register <<< 1) ^^^ 0x1021#16 else register <<< 1

/-- The bits of a byte, the most significant first. -/
def bitsOf (b : Byte) : List Bool :=
  [b.getLsbD 7, b.getLsbD 6, b.getLsbD 5, b.getLsbD 4, b.getLsbD 3, b.getLsbD 2, b.getLsbD 1, b.getLsbD 0]

/-- One byte into the CRC register, most significant bit first (R153). -/
def crcByte (register : BitVec 16) (b : Byte) : BitVec 16 :=
  (bitsOf b).foldl crcBit register

/-- The CRC over bytes in the order they are sent, from 0xFFFF (R153). -/
def crc (bytes : List Byte) : BitVec 16 := bytes.foldl crcByte 0xFFFF#16

/-- The sync byte (R152). -/
def syncByte : Byte := 0xB5#8

/-- The bytes of a frame that its CRC covers: length, kind, tag and payload (R153). -/
def Frame.covered (f : Frame) : List Byte := BitVec.ofNat 8 (f.payload.length + 2) :: f.kind :: f.tag :: f.payload

/-- The bytes of a frame as they leave TXD (R152). -/
def Frame.wire (f : Frame) : List Byte := syncByte :: f.covered ++ beBytes 2 (crc f.covered).toNat

/-- How many bytes a frame has on the line: L + 4 (R152). -/
def Frame.wireLength (f : Frame) : Nat := f.payload.length + 6

/-- Whole µs of a frame's time on the line, ten bit times per byte (R151, R153; log entry 8). -/
def frameMicros (baud : Baud) (f : Frame) : Nat := f.wireLength * 10 * 1000000 / baud.rate

/-- Whole µs from a falling edge that is taken as a start bit to the middle of the stop bit: 9.5 bit times (R151). -/
def characterMicros (baud : Baud) : Nat := 9500000 / baud.rate

/-- Whole µs of one character time of high level and then a character: 19.5 bit times (R151). -/
def quietCharacterMicros (baud : Baud) : Nat := 19500000 / baud.rate

/-- Whether RXD has been high for at least one character time, ten bit times, when it has been so for `high` periods of the
8.000 MHz REFCLK (R32, R151). -/
def highForCharacter (baud : Baud) (high : Nat) : Bool := decide (10 * 8000000 ≤ high * baud.rate)

end Sys2Proof.Machine
end

