-- ==== Sys2Proof/Machine/Flags.lean ====
section
/-! DEFINITION. The tests and flags that the rules name: due times (R31, R80), live jobs (section 1.2), saturating counters,
eligibility (R138), and which event is enabled (R33, R83, R100, R142, R155, R159, R160). -/

namespace Sys2Proof.Machine

open Sys2Proof

/-! ### Device times -/

/-- A due time D counts as reached at device time T when (T − D) modulo 2^48 is below 2^47 (R31). -/
def reached (now due : Time) : Bool := decide ((now - due).toNat < 2 ^ 47)

/-- D1 is earlier than D2 when (D2 − D1) modulo 2^48 is nonzero and below 2^47 (R80). -/
def earlier (d1 d2 : Time) : Bool := decide ((d2 - d1).toNat ≠ 0) && decide ((d2 - d1).toNat < 2 ^ 47)

/-- The later of two device times (R112). -/
def laterOf (a b : Time) : Time := if earlier a b then b else a

/-- The time left to a due time, 0 when it has been reached (R88, R90, R98). -/
def timeLeft (now due : Time) : Nat := if reached now due then 0 else (due - now).toNat

/-- A device time `n` µs later. -/
def plus (t : Time) (n : Nat) : Time := t + BitVec.ofNat 48 n

/-! ### Counters -/

/-- One more, staying at the largest value (00_scope, "Counters that saturate"). -/
def satSucc (largest n : Nat) : Nat := if n < largest then n + 1 else n

/-- The largest value of a 32-bit counter. -/
def max32 : Nat := 4294967295

/-- `n` and `k` more, staying at 4,294,967,295. -/
def satAdd32 (n k : Nat) : Nat := min max32 (n + k)

/-! ### Jobs -/

/-- The live states: ARMED, RUNNING, HELD and STOPPING (section 1.2). -/
def JobState.live : JobState → Bool
  | .armed => true
  | .running => true
  | .held => true
  | .stopping => true
  | .free => false
  | .defined => false
  | .ended => false

/-- RUNNING or STOPPING: the states in which a job holds a schedule entry and takes cell events (R21). -/
def JobState.working : JobState → Bool
  | .running => true
  | .stopping => true
  | .free => false
  | .defined => false
  | .armed => false
  | .held => false
  | .ended => false

/-- The level opposite a level. -/
def otherLevel : Level → Level
  | .low => .high
  | .high => .low

/-- The polarity of the edge to a new level (R34). -/
def polarityTo : Level → Polarity
  | .high => .rising
  | .low => .falling

/-- Whether an edge selection takes a polarity (R48, R68). -/
def EdgeSelect.takes : EdgeSelect → Polarity → Bool
  | .both, _ => true
  | .rising, .rising => true
  | .rising, .falling => false
  | .falling, .rising => false
  | .falling, .falling => true

/-- The source line of a kind that has one (R45, R60, R110). -/
def Work.source : Work → Option InId
  | .count c _ => some c.source
  | .measure m _ => some m.source
  | .echo e _ => some e.source
  | .delay _ _ => none
  | .tick _ _ => none
  | .wave _ _ => none

/-- The cells a kind needs (R23). -/
def Work.cellsNeeded : Work → Nat
  | .count c _ => match c.width with
    | .w16 => 1
    | .w32 => 2
  | .measure _ _ => 1
  | .delay _ _ => 0
  | .tick _ _ => 0
  | .wave _ _ => 1
  | .echo _ _ => 1

/-- The largest count of a width (R24). -/
def CountWidth.largest : CountWidth → Nat
  | .w16 => 65535
  | .w32 => 4294967295

/-- Whether a job watches an input line (R36). -/
def Job.watches (b : Job) (line : InId) : Bool :=
  match b.defn with
  | none => false
  | some d =>
    match b.state with
    | .armed => match d.startMode with
      | .onEdge arming _ => decide (arming = line)
      | .immediate => false
      | .onLink => false
    | .running => decide (d.work.source = some line)
    | .held => decide (d.work.source = some line)
    | .stopping => decide (d.work.source = some line)
    | .free => false
    | .defined => false
    | .ended => false

/-- The flags byte of a job summary (R172). -/
def summaryFlags (reserved staged replaced : Bool) : Nat :=
  (if reserved then 1 else 0) + (if staged then 2 else 0) + (if replaced then 4 else 0)

/-! ### The part -/

/-- Device time runs: no reset holds it and REFCLK runs (R30, R44). -/
def Part.clocked (p : Part) : Bool := decide (p.resetHold = .none) && p.refclk

/-- Occupancy (section 8). -/
def Part.occupancy (p : Part) : Nat := p.reports.queue.length

/-- The admission test: occupancy plus reservations is below 64 (R26, R133). -/
def Part.hasRoom (p : Part) : Bool := decide (p.occupancy + p.reports.reservations < 64)

/-- How many entries are SENT (R138). -/
def sentCount (q : List ReportEntry) : Nat := q.countP (fun e => decide (e.delivery = .sent))

/-- The first RESEND entry, else the first NEW entry, of a queue in R138's order: the first entry that is not SENT. -/
def nextToSend (q : List ReportEntry) : Option ReportEntry :=
  match q.find? (fun e => decide (e.delivery = .resend)) with
  | some e => some e
  | none => q.find? (fun e => decide (e.delivery = .new))

/-- The report entry that is eligible (R138). -/
def Reporter.eligible (r : Reporter) : Option ReportEntry :=
  if r.link = .up ∧ sentCount r.queue < 8 then nextToSend r.queue else none

/-- The oldest sequence of the queue (R134). -/
def Reporter.oldestSeq (r : Reporter) : BitVec 16 :=
  match r.queue with
  | [] => r.nextSeq
  | e :: _ => e.seq

/-! ### Enabled events -/

/-- The change under filtering on a line is to be accepted: device time has reached first-seen time plus filter time (R33). -/
def acceptanceDue (now : Time) (l : InputLine) : Bool :=
  match l.change with
  | none => false
  | some c => reached now (plus c.firstSeen c.filterTime)

/-- The head of the schedule, when its due time has been reached (R83). -/
def Part.dueEntry (p : Part) : Option DeadlineEntry :=
  match p.schedule with
  | [] => none
  | e :: _ => if p.clocked && reached p.time e.due then some e else none

/-- The due entry, when it has the given purpose. -/
def Part.dueFor (p : Part) (purpose : Purpose) : Option DeadlineEntry :=
  match p.dueEntry with
  | none => none
  | some e => if e.purpose = purpose then some e else none

/-- The phase that the (first) cell of a job measures out. -/
def Part.phaseOf (p : Part) (j : JobId) : Option CellPhase :=
  match p.jobs[j].cells with
  | [] => none
  | c :: _ => p.cells[c].phase

/-- The whole cell turns in a phase of `length` µs (R100). -/
def turnsOf (length : Nat) : Nat := length / 65536

/-- The time at which the phase of a cell ends (R100). -/
def CellPhase.endTime (ph : CellPhase) : Time := plus ph.start ph.length

/-- The time at which the turn in progress ends, when `turnsLeft` whole turns of the phase are still to run (R100). -/
def CellPhase.turnEnd (ph : CellPhase) (turnsLeft : Nat) : Time :=
  plus ph.start (65536 * (turnsOf ph.length - turnsLeft + 1))

/-- The retransmit timer has reached its expiry time (R142). -/
def Part.timerDue (p : Part) : Bool :=
  match p.reports.timer with
  | none => false
  | some t => p.clocked && reached p.time t

/-- The gap expiry has been reached in LENGTH, BODY or CHECK (R155). -/
def Part.gapDue (p : Part) : Bool :=
  match p.port.gapExpiry, p.port.rxState with
  | some t, .length => p.clocked && reached p.time t
  | some t, .body => p.clocked && reached p.time t
  | some t, .check => p.clocked && reached p.time t
  | some _, .hunt => false
  | some _, .closed => false
  | none, _ => false

/-- The kind code of replies to RESET (R165). -/
def resetReplyKind : Byte := 0x93#8

/-- A reply of status OK to RESET: the reply whose end executes the command reset (R162). -/
def Frame.isResetReply (f : Frame) : Bool := decide (f.kind = resetReplyKind) && decide (f.payload = [0x00#8, 0x00#8])

/-- The frame in transmission, when its last byte has left TXD (R151, R160; log entry 8). -/
def Part.frameDone (p : Part) : Option Frame :=
  match p.port.tx with
  | .idle => none
  | .sending f began =>
    if p.clocked && decide (frameMicros p.port.baud f ≤ (p.time - began).toNat) then some f else none

/-- The frame that the Command Interpreter takes: the oldest of the receive buffer, when fewer than 4 replies wait and no
RESET awaits execution (R159, R162). DEDUCED, log entry 31: the ACKs that R149 has taken until the execution are those in front
of the RESET; one behind it is a frame that stays there uninterpreted (R162). -/
def Part.frameToTake (p : Part) : Option Frame :=
  if p.port.replies.length < 4 ∧ p.port.resetPending = false then p.port.rxBuffer.head? else none

/-- The kinds of the nineteen commands (R165). -/
def isCommandKind (kind : Byte) : Bool := decide (1 ≤ kind.toNat) && decide (kind.toNat ≤ 19)

end Sys2Proof.Machine
end

