-- ==== Sys2Proof/Machine/Ops.lean ====
section
/-! DEFINITION. The named operations over the part's blocks: job records, output lines, the Cell Pool, the Deadline Schedule,
the Report Queue, and the transmitter. A block has no exception entry: an error or a result is a report, a reply or a
counter, raised by the operations below. -/

namespace Sys2Proof.Machine

open Sys2Proof

/-! ### Job records -/

/-- Replaces one job record. -/
def Part.setJob (p : Part) (j : JobId) (b : Job) : Part := { p with jobs := p.jobs.set j.val b j.isLt }

/-- Replaces the kind, parameters and progress of a job that has a definition. -/
def Part.setWork (p : Part) (j : JobId) (w : Work) : Part :=
  p.setJob j { p.jobs[j] with defn := p.jobs[j].defn.map (fun d => { d with work := w }) }

/-- Moves a job into a state. -/
def Part.setState (p : Part) (j : JobId) (st : JobState) : Part := p.setJob j { p.jobs[j] with state := st }

/-- Replaces the staged alteration of a job (R1). -/
def Part.setStaged (p : Part) (j : JobId) (staged : Option Staged) : Part := p.setJob j { p.jobs[j] with staged := staged }

/-- Replaces the lost counter of a job (R3). -/
def Part.setLost (p : Part) (j : JobId) (lost : Nat) : Part := p.setJob j { p.jobs[j] with lost := lost }

/-- The kind, parameters and progress of a job, absent in FREE. -/
def Part.workOf (p : Part) (j : JobId) : Option Work :=
  match p.jobs[j].defn with
  | none => none
  | some d => some d.work

/-! ### Output lines (R39, R40) -/

/-- Sets one output line. -/
def Part.setOutput (p : Part) (o : OutId) (l : OutputLine) : Part := { p with outputs := p.outputs.set o.val l o.isLt }

/-- The output line of a job's definition, when the job owns it. -/
def Part.ownedOutput (p : Part) (j : JobId) : Option OutputUse :=
  match p.jobs[j].defn with
  | none => none
  | some d =>
    match d.output with
    | none => none
    | some u => if p.outputs[u.line].owner = some j then some u else none

/-- Drives the owned line of a job at its idle level; no effect when it owns none (R40). -/
def Part.driveIdle (p : Part) (j : JobId) : Part :=
  match p.ownedOutput j with
  | none => p
  | some u => p.setOutput u.line { p.outputs[u.line] with level := u.idle }

/-- Drives the owned line of a job at its active level, the level opposite the idle level (R40). -/
def Part.driveActive (p : Part) (j : JobId) : Part :=
  match p.ownedOutput j with
  | none => p
  | some u => p.setOutput u.line { p.outputs[u.line] with level := otherLevel u.idle }

/-- Drives the owned line of a job at its idle level and releases it (R27 step 3, R39). -/
def Part.releaseLine (p : Part) (j : JobId) : Part :=
  match p.ownedOutput j with
  | none => p
  | some u => p.setOutput u.line { level := u.idle, owner := none }

/-! ### The Cell Pool (R23–R25) -/

/-- Sets one cell. -/
def Part.setCell (p : Part) (c : CellId) (x : Cell) : Part := { p with cells := p.cells.set c.val x c.isLt }

/-- The free cells, lowest-numbered first (R23). -/
def Part.freeCells (p : Part) : List CellId := (List.finRange 24).filter (fun c => p.cells[c].owner.isNone)

/-- Gives each of the cells to a job with count 0 (R23). -/
def Part.giveCells (p : Part) (j : JobId) (cs : List CellId) : Part :=
  { p with cells := Vector.ofFn (fun c : CellId =>
      if cs.contains c then { owner := some j, count := 0#16, phase := none } else p.cells[c]) }

/-- Returns every cell a job holds to the pool, free and with count 0, and empties the job's list of cells (R23, R27 step 2). -/
def Part.freeCellsOf (p : Part) (j : JobId) : Part :=
  ({ p with cells := p.cells.map (fun x : Cell => if x.owner = some j then Cell.free else x) } : Part).setJob j
    { p.jobs[j] with cells := [] }

/-- The count that the cells of a job hold, both halves taken together (R24). -/
def Part.countOf (p : Part) (j : JobId) : Nat :=
  match p.jobs[j].cells with
  | [] => 0
  | [low] => p.cells[low].count.toNat
  | low :: high :: _ => p.cells[low].count.toNat + 65536 * p.cells[high].count.toNat

/-- Adds 1 to the count that the cells of a job hold; a low half at 65,535 carries into the high half (R24). The caller
has tested for the largest count. -/
def Part.countUp (p : Part) (j : JobId) : Part :=
  match p.jobs[j].cells with
  | [] => p
  | [low] => p.setCell low { p.cells[low] with count := p.cells[low].count + 1#16 }
  | low :: high :: _ =>
    if p.cells[low].count = 0xFFFF#16 then
      let q := p.setCell low { p.cells[low] with count := 0#16 }
      q.setCell high { q.cells[high] with count := q.cells[high].count + 1#16 }
    else p.setCell low { p.cells[low] with count := p.cells[low].count + 1#16 }

/-- Sets the (first) cell of a job to count 0, as a RATE job does at the start of a window (R68). -/
def Part.zeroCount (p : Part) (j : JobId) : Part :=
  match p.jobs[j].cells with
  | [] => p
  | c :: _ => p.setCell c { p.cells[c] with count := 0#16 }

/-- Gives the cell of a job a phase to measure out, or takes the phase away (R25, R100). -/
def Part.setPhase (p : Part) (j : JobId) (ph : Option CellPhase) : Part :=
  match p.jobs[j].cells with
  | [] => p
  | c :: _ => p.setCell c { p.cells[c] with phase := ph }

/-! ### The Deadline Schedule (R80–R83) -/

/-- Inserts an entry by its due time, behind the entries with an equal due time (R80). -/
def insertEntry (e : DeadlineEntry) : List DeadlineEntry → List DeadlineEntry
  | [] => [e]
  | x :: xs => if earlier e.due x.due then e :: x :: xs else x :: insertEntry e xs

/-- Removes the entry of a job, if any (R82). -/
def Part.unschedule (p : Part) (j : JobId) : Part := { p with schedule := p.schedule.filter (fun e => decide (e.job ≠ j)) }

/-- Places an entry for a job; it replaces any entry the job already holds (R81). -/
def Part.place (p : Part) (j : JobId) (purpose : Purpose) (due : Time) : Part :=
  { p.unschedule j with schedule := insertEntry { due := due, job := j, purpose := purpose } (p.unschedule j).schedule }

/-- The entry of a job, if it holds one. -/
def Part.entryOf (p : Part) (j : JobId) : Option DeadlineEntry := p.schedule.find? (fun e => decide (e.job = j))

/-- Takes the head entry off the schedule for its delivery (R83). -/
def Part.popEntry (p : Part) : Part := { p with schedule := p.schedule.tail }

/-- The time from the present to the due time of a job's entry, 0 when it has been reached or there is none
(R88, R89, R95). -/
def Part.timeLeftOf (p : Part) (j : JobId) : Nat :=
  match p.entryOf j with
  | none => 0
  | some e => timeLeft p.time e.due

/-! ### The Report Queue (R132–R136) -/

/-- Appends a report as a NEW entry with the next sequence (R133, R134). -/
def Part.enqueue (p : Part) (job : Option JobId) (run : BitVec 8) (time : Time) (lost : Nat) (content : ReportContent) : Part :=
  { p with reports := { p.reports with
      queue := p.reports.queue ++ [{ seq := p.reports.nextSeq, job := job, run := run, time := time, lost := lost,
                                     content := content, delivery := .new, thisStart := true }]
      nextSeq := p.reports.nextSeq + 1#16 } }

/-- Offers a non-terminal report of a job: admitted with the lost counter, which becomes 0, when there is room; else dropped
and counted (R3, R133, R135). -/
def Part.offer (p : Part) (j : JobId) (time : Time) (content : ReportContent) : Part :=
  if p.hasRoom then (p.enqueue (some j) p.jobs[j].run time p.jobs[j].lost content).setLost j 0
  else p.setLost j (satSucc 255 p.jobs[j].lost)

/-- Whether a queue entry is the NEW TICK entry of a job admitted since its last successful start (R93, R136). -/
def ReportEntry.coalesces (e : ReportEntry) (j : JobId) : Bool :=
  match e.content with
  | .tick _ _ => decide (e.job = some j) && decide (e.delivery = .new) && e.thisStart
  | .restart _ _ => false
  | .progress _ => false
  | .sample _ _ => false
  | .ended _ _ _ _ => false

/-- Folds a tick into an entry (R93). -/
def ReportEntry.fold (e : ReportEntry) (number : BitVec 32) (time : Time) : ReportEntry :=
  match e.content with
  | .tick _ merged => { e with time := time, content := .tick number (satSucc 255 merged) }
  | .restart _ _ => e
  | .progress _ => e
  | .sample _ _ => e
  | .ended _ _ _ _ => e

/-- Offers the TICK report of a tick: folded into the waiting NEW TICK report of the job when there is one, else offered to the
admission test (R93, R136). -/
def Part.offerTick (p : Part) (j : JobId) (number : BitVec 32) (time : Time) : Part :=
  if p.reports.queue.any (fun e => e.coalesces j) then
    { p with reports := { p.reports with
        queue := p.reports.queue.map (fun e => if e.coalesces j then e.fold number time else e) } }
  else p.offer j time (.tick number 0)

/-- Admits the END report of a job by converting its reservation; the lost counter goes into it and becomes 0
(R26, R27 step 5, R133). -/
def Part.admitEnd (p : Part) (j : JobId) (cause : EndCause) (final aux : Nat) (time : Time) : Part :=
  let q := p.enqueue (some j) p.jobs[j].run time p.jobs[j].lost (.ended cause final aux .none)
  let r := { q with reports := { q.reports with reservations := q.reports.reservations - 1 } }
  r.setJob j { r.jobs[j] with lost := 0, reservation := false }

/-- Writes a link outcome into the END entry with a sequence number (R127). -/
def ReportEntry.setOutcome (e : ReportEntry) (seq : BitVec 16) (o : LinkOutcome) : ReportEntry :=
  if e.seq = seq then
    match e.content with
    | .ended cause final aux _ => { e with content := .ended cause final aux o }
    | .restart _ _ => e
    | .progress _ => e
    | .sample _ _ => e
    | .tick _ _ => e
  else e

/-- The job with a link outcome in its result, when it has a result (R127). -/
def Job.withOutcome (b : Job) (o : LinkOutcome) : Job := { b with result := b.result.map (fun r => { r with outcome := o }) }

/-- Writes the outcome of a job's end action into its result and into its END report (R27 step 6, R127). A result that the action
itself discarded, at a self-restart, stays discarded (R130). -/
def Part.recordOutcome (p : Part) (j : JobId) (seq : BitVec 16) (o : LinkOutcome) : Part :=
  ({ p with reports := { p.reports with queue := p.reports.queue.map (fun e => e.setOutcome seq o) } } : Part).setJob j
    (p.jobs[j].withOutcome o)

/-- Marks the queue entries of a job as admitted before its last successful start (R93). -/
def Part.closeReports (p : Part) (j : JobId) : Part :=
  { p with reports := { p.reports with
      queue := p.reports.queue.map (fun e => if e.job = some j then { e with thisStart := false } else e) } }

/-! ### The frame of a report (R139, R175) -/

/-- The frame kind of a report (R165). -/
def ReportContent.kindCode : ReportContent → Byte
  | .restart _ _ => 0x40#8
  | .progress _ => 0x41#8
  | .sample _ _ => 0x42#8
  | .tick _ _ => 0x43#8
  | .ended _ _ _ _ => 0x44#8

/-- The content bytes of a report (R175). -/
def ReportContent.bytes : ReportContent → List Byte
  | .restart cause revision => beBytes 1 cause.code ++ [revision]
  | .progress count => beBytes 4 count
  | .sample value accepted => beBytes 4 value ++ beBytes 4 accepted
  | .tick number merged => beBytes 4 number.toNat ++ beBytes 1 merged
  | .ended cause final aux outcome =>
    beBytes 1 cause.code ++ beBytes 5 final ++ beBytes 4 aux ++ beBytes 1 outcome.code

/-- The frame that carries a report: header, content and tag 0 (R139, R175). -/
def ReportEntry.frame (e : ReportEntry) : Frame :=
  { kind := e.content.kindCode, tag := 0x00#8,
    payload := beBytes 2 e.seq.toNat ++ beBytes 1 (ownerNumber e.job) ++ beBytes 1 e.run.toNat ++ timeBytes e.time ++
      beBytes 1 e.lost ++ e.content.bytes }

/-! ### The transmitter (R138–R142, R160) -/

/-- Marks SENT the first entry that is not SENT already and has the given sequence. -/
def markSent (seq : BitVec 16) : List ReportEntry → List ReportEntry
  | [] => []
  | e :: es =>
    if e.seq = seq ∧ e.delivery ≠ .sent then { e with delivery := .sent } :: es else e :: markSent seq es

/-- The retransmit interval in force, in µs (R142, R147). -/
def Reporter.intervalMicros (r : Reporter) : Nat := r.interval * 1000

/-- An entry becomes SENT as its frame begins; the timer starts when no other entry was SENT (R139, R142). -/
def Reporter.begin (r : Reporter) (now : Time) (e : ReportEntry) : Reporter :=
  { r with
    queue := markSent e.seq r.queue
    timer := if sentCount r.queue = 0 then some (plus now r.intervalMicros) else r.timer }

/-- Begins a frame. -/
def Part.beginFrame (p : Part) (f : Frame) : Part := { p with port := { p.port with tx := .sending f p.time } }

/-- The choice of the IDLE transmitter: the oldest waiting reply, else the eligible report, else nothing (R160). It makes no
choice while a frame is in transmission, while a reset holds the part (R44) or while REFCLK is stopped (R30). -/
def Part.arbitrate (p : Part) : Part :=
  match p.port.tx with
  | .sending _ _ => p
  | .idle =>
    if p.clocked then
      match p.port.replies with
      | f :: rest => ({ p with port := { p.port with replies := rest } } : Part).beginFrame f
      | [] =>
        match p.reports.eligible with
        | none => p
        | some e => ({ p with reports := p.reports.begin p.time e } : Part).beginFrame e.frame
    else p

/-! ### The intake of a command (R159, R166) -/

/-- What the checks and the action of a command come to: refused with a status and a detail byte, or taken, with the part it
leaves and the body of its OK reply. A refusal carries no part, so it can change nothing (R166). -/
inductive Verdict where
  | deny (status : Status) (detail : Nat)
  | taken (p : Part) (body : List Byte)

/-- The two bytes every reply opens with (R166). -/
def replyHead (status : Status) (detail : Nat) : List Byte := beBytes 1 status.code ++ beBytes 1 detail

/-- The part after a verdict. -/
def Verdict.part (p : Part) : Verdict → Part
  | .deny _ _ => p
  | .taken q _ => q

/-- The payload of the reply to a verdict (R166). -/
def Verdict.payload : Verdict → List Byte
  | .deny status detail => replyHead status detail
  | .taken _ body => replyHead .ok 0 ++ body

/-- Appends a reply at the tail of the reply queue (R159). -/
def Part.appendReply (p : Part) (f : Frame) : Part := { p with port := { p.port with replies := p.port.replies ++ [f] } }

/-- The oldest frame leaves the receive buffer (R159). -/
def Part.dropFrame (p : Part) : Part := { p with port := { p.port with rxBuffer := p.port.rxBuffer.tail } }

/-- One intake: the oldest frame leaves the buffer, the command is checked and acts, and its reply is appended; an IDLE
transmitter then begins it (R159, R160). It takes place only when the interpreter may take a frame and that frame is of
this command. DESIGN CHOICE, log entry 32: where the same intake also makes a report eligible on an IDLE transmitter, R160
lets either be taken first, and the model begins the reply. -/
def Part.intake (p : Part) (isKind : Byte → Bool) (replyKind : Byte → Byte) (act : Part → List Byte → Verdict) : Part :=
  match p.frameToTake with
  | none => p
  | some f =>
    if isKind f.kind then
      let v := act p.dropFrame f.payload
      ((v.part p.dropFrame).appendReply { kind := replyKind f.kind, tag := f.tag, payload := v.payload }).arbitrate
    else p

/-- The intake of the command with a kind code (R165, R166). -/
def Part.command (p : Part) (kind : Byte) (act : Part → List Byte → Verdict) : Part :=
  p.intake (fun k => decide (k = kind)) (fun k => k + 0x80#8) act

end Sys2Proof.Machine
end

