-- ==== Sys2Proof/Machine/Jobs.lean ====
section
/-! DEFINITION. The life of a job, shared by commands and events: claims and starts (R8–R11, R23), entry into RUNNING, HOLD and
RESUME by kind (R15, R16), the ending (R27, R28), the links and the cascade (R122–R130). -/

namespace Sys2Proof.Machine

open Sys2Proof

/-! ### Start values and entry into RUNNING -/

/-- The progress of a kind at its start values (R4, R45, R62, R85, R91, R101, R110). -/
def Work.fresh : Work → Work
  | .count c _ => .count c { count := 0, blocked := 0 }
  | .measure m _ => .measure m
      { accepted := 0, last := none, minimum := none, maximum := none, sinceReport := 0, interval := none, stallRef := none,
        windowStart := none }
  | .delay d _ => .delay d { remaining := d.duration }
  | .tick t _ => .tick t { ticksDone := 0#32, remaining := t.period }
  | .wave w _ => .wave w { pulses := 0#32, phase := none, periodStart := none, turnsLeft := 0 }
  | .echo e _ => .echo e { pendingList := [], pulse := none, pulses := 0#32, missed := 0, slipped := 0, cut := 0 }

/-- The due time of a stall deadline: the reference plus the high limit plus 1 (R70). -/
def stallDue (ref : Time) (highLimit : Nat) : Time := plus ref (highLimit + 1)

/-- A MEASURE job begins in its mode at `t`, at RUNNING entry and at RESUME: PERIOD with stall places its stall deadline, RATE
starts a window, HIGH and LOW wait (R62, R68, R70, R74). -/
def Part.beginMeasure (p : Part) (j : JobId) (m : MeasureParams) (g : MeasureProgress) (t : Time) : Part :=
  match m.mode with
  | .period =>
    if m.stall then (p.setWork j (.measure m { g with stallRef := some t })).place j .stall (stallDue t m.highLimit) else p
  | .high => p
  | .low => p
  | .rate _ window =>
    ((p.setWork j (.measure m { g with windowStart := some t })).zeroCount j).place j .window (plus t window)

/-- A WAVE job begins a period at `t`: period start, ACTIVE, the line active, the cell given the active phase (R102). -/
def Part.beginPeriod (p : Part) (j : JobId) (w : WaveParams) (g : WaveProgress) (t : Time) : Part :=
  ((p.setWork j (.wave w { g with phase := some .active, periodStart := some t, turnsLeft := turnsOf w.width })).driveActive
    j).setPhase j (some { start := t, length := w.width })

/-- What a kind does at its entry into RUNNING at `t` (R11 and the kind chapters). -/
def Part.beginKind (p : Part) (j : JobId) (t : Time) : Part :=
  match p.workOf j with
  | none => p
  | some (.count _ _) => p
  | some (.measure m g) => p.beginMeasure j m g t
  | some (.delay d _) => (p.place j .expiry (plus t d.duration)).driveActive j
  | some (.tick k _) => p.place j .tick (plus t k.period)
  | some (.wave w g) => p.beginPeriod j w g t
  | some (.echo _ _) => p

/-- Entry into RUNNING with RUNNING entry time `t` (R11). -/
def Part.enterRunning (p : Part) (j : JobId) (t : Time) : Part :=
  (p.setJob j { p.jobs[j] with
    state := .running, defn := p.jobs[j].defn.map (fun d => { d with entryTime := t }) }).beginKind j t

/-! ### The claims of a start (R9, R10) -/

/-- What the claims of a start come to. -/
inductive Claim where
  | lineBusy (owner : JobId)
  | noCells
  | noRoom
  | granted (cells : List CellId)
deriving DecidableEq, Repr

/-- The other job that owns the output line a definition names (R9). -/
def Part.lineHolder (p : Part) (j : JobId) (d : Definition) : Option JobId :=
  match d.output with
  | none => none
  | some u =>
    match p.outputs[u.line].owner with
    | none => none
    | some k => if k = j then none else some k

/-- The claims in R9's order: output line, cells, reservation; the first failure is the one reported. -/
def Part.claim (p : Part) (j : JobId) (d : Definition) : Claim :=
  match p.lineHolder j d with
  | some k => .lineBusy k
  | none =>
    if p.freeCells.length < d.work.cellsNeeded then .noCells
    else if p.hasRoom then .granted (p.freeCells.take d.work.cellsNeeded) else .noRoom

/-- The line of a definition becomes owned by the job, at its idle level (R10, R39). -/
def Part.takeLine (p : Part) (j : JobId) (d : Definition) : Part :=
  match d.output with
  | none => p
  | some u => p.setOutput u.line { level := u.idle, owner := some j }

/-- The grants of R9 with the effects of R10: line, cells, reservation; run incremented, progress at its start values, result
discarded, line at idle. Reports admitted before this start no longer coalesce (R93). -/
def Part.grant (p : Part) (j : JobId) (d : Definition) (cs : List CellId) : Part :=
  let q := ((p.takeLine j d).giveCells j cs).closeReports j
  let r := { q with reports := { q.reports with reservations := q.reports.reservations + 1 } }
  r.setJob j { r.jobs[j] with
    run := r.jobs[j].run + 1#8, cells := cs, result := none, reservation := true,
    defn := some { d with entryTime := 0#48, work := d.work.fresh } }

/-! ### HOLD and RESUME by kind (R15, R16) -/

/-- What a kind keeps and abandons when its job enters HELD, `left` being the time left to its schedule entry (R54, R73, R88,
R95, R105, R117). -/
def Work.held (w : Work) (left : Nat) : Work :=
  match w with
  | .count c g => .count c g
  | .measure m g => .measure m { g with interval := none, stallRef := none, windowStart := none }
  | .delay d _ => .delay d { remaining := left }
  | .tick t g => .tick t { g with remaining := left }
  | .wave w g => .wave w { g with phase := none, periodStart := none, turnsLeft := 0 }
  | .echo e g => .echo e { g with
      pendingList := [], pulse := none, missed := satAdd32 g.missed g.pendingList.length,
      cut := satAdd32 g.cut (if g.pulse.isSome then 1 else 0) }

/-- A RUNNING job enters HELD: line at idle, schedule entry removed, cell stopped, progress as its kind says (R15). -/
def Part.holdJob (p : Part) (j : JobId) : Part :=
  match p.workOf j with
  | none => p
  | some w => ((((p.setWork j (w.held (p.timeLeftOf j))).setState j .held).unschedule j).driveIdle j).setPhase j none

/-- A staged pair, when there is one, becomes the period and width of a WAVE job (R103, R105). -/
def WaveParams.applyStaged (w : WaveParams) : Option Staged → WaveParams
  | some (.pair period width) => { w with period := period, width := width }
  | some (.period _) => w
  | none => w

/-- A HELD job continues in RUNNING from the present device time (R16, R74, R88, R95, R105, R117). -/
def Part.resumeJob (p : Part) (j : JobId) : Part :=
  let q := p.setState j .running
  match q.workOf j with
  | none => q
  | some (.count _ _) => q
  | some (.measure m g) => q.beginMeasure j m g q.time
  | some (.delay _ g) => (q.place j .expiry (plus q.time g.remaining)).driveActive j
  | some (.tick _ g) => q.place j .tick (plus q.time g.remaining)
  | some (.wave w g) => (q.setStaged j none).beginPeriod j (w.applyStaged q.jobs[j].staged) g q.time
  | some (.echo _ _) => q

/-! ### The ending (R27, R28) -/

/-- What an ending leaves in the progress, with the final and the auxiliary value. -/
structure EndRecord where
  work : Work
  final : Nat
  aux : Nat
deriving DecidableEq, Repr

/-- The values a kind records at an ending, from the live state it leaves, the cause, the end time, the count in its cells, the
time left to its schedule entry and, for HIGH_EXCEEDED and LOW_EXCEEDED, the sample (R57, R77, R89, R94, R97, R107,
R119). -/
def Work.ending (w : Work) (state : JobState) (cause : EndCause) (endTime : Time) (count left sample : Nat) : EndRecord :=
  match w with
  | .count c g =>
    { work := .count c { g with count := count }
      final := if state = .armed then 0 else count
      aux := if state = .armed then 0 else g.blocked }
  | .measure m g =>
    { work := .measure m { g with interval := none, stallRef := none, windowStart := none }
      final := if state = .armed then 0 else
        match cause with
        | .highExceeded => sample
        | .lowExceeded => sample
        | .stall => m.highLimit + 1
        | .overflow => 65535
        | .limitReached => g.last.getD 0
        | .expired => g.last.getD 0
        | .hostStop => g.last.getD 0
        | .linkedStop => g.last.getD 0
        | .linkLost => g.last.getD 0
      aux := if state = .armed then 0 else g.accepted }
  | .delay d g =>
    let remaining :=
      if cause = .expired then 0 else if state = .armed then d.duration else if state = .running then left else g.remaining
    { work := .delay d { remaining := remaining }
      final := d.duration - remaining
      aux := remaining }
  | .tick t g =>
    { work := .tick t g
      final := if state = .armed then 0 else g.ticksDone.toNat
      aux := t.period }
  | .wave w g =>
    { work := .wave w { g with phase := none, periodStart := none, turnsLeft := 0 }
      final := if state = .armed then 0 else g.pulses.toNat
      aux := if state.working then
          match g.periodStart with
          | none => 0
          | some t => (endTime - t).toNat
        else 0 }
  | .echo e g =>
    let missed := satAdd32 g.missed g.pendingList.length
    { work := .echo e { g with
        pendingList := [], pulse := none, missed := missed, cut := satAdd32 g.cut (if g.pulse.isSome then 1 else 0) }
      final := if state = .armed then 0 else g.pulses.toNat
      aux := if state = .armed then 0 else missed }

/-- The time from `t` to the due time of a job's entry, 0 when it has been reached or there is none (R89). -/
def Part.leftAt (p : Part) (j : JobId) (t : Time) : Nat :=
  match p.entryOf j with
  | none => 0
  | some e => timeLeft t e.due

/-- The deliveries of edges that a job has not taken end with its watching (R36). -/
def Part.dropDeliveries (p : Part) (j : JobId) : Part :=
  { p with deliveries := p.deliveries.filter (fun d => decide (d.job ≠ j)) }

/-- Steps 1 to 5 of an ending (R27): schedule entry removed, cells freed, line released at idle, result recorded, reservation
converted into the END report. The outcome stands at NONE until step 6. -/
def Part.endSteps (p : Part) (j : JobId) (cause : EndCause) (endTime : Time) (sample : Nat) : Part :=
  match p.workOf j with
  | none => p
  | some w =>
    let e := w.ending p.jobs[j].state cause endTime (p.countOf j) (p.leftAt j endTime) sample
    let q := ((((p.setWork j e.work).unschedule j).freeCellsOf j).releaseLine j).dropDeliveries j
    let r := q.setJob j { q.jobs[j] with
      state := .ended, staged := none,
      result := some { cause := cause, final := e.final, aux := e.aux, endTime := endTime, outcome := .none } }
    r.admitEnd j cause e.final e.aux endTime

/-! ### Links and the cascade (R124–R130) -/

/-- A START link on a target: from ARMED into RUNNING, or a full start that enters RUNNING whatever the start mode, at the
link time; with its outcome (R125). DEDUCED, log entry 34: a target that a START command has just left ARMED is moved into
RUNNING, with DONE (R11, R125); R22 has the link record TARGET_BUSY there. -/
def Part.startLink (p : Part) (t : JobId) : Part × LinkOutcome :=
  match p.jobs[t].state, p.jobs[t].defn with
  | .armed, _ => (p.enterRunning t p.time, .done)
  | .defined, some d =>
    match p.claim t d with
    | .lineBusy _ => (p, .lineBusy)
    | .noCells => (p, .noCells)
    | .noRoom => (p, .noRoom)
    | .granted cs => ((p.grant t d cs).enterRunning t p.time, .done)
  | .ended, some d =>
    match p.claim t d with
    | .lineBusy _ => (p, .lineBusy)
    | .noCells => (p, .noCells)
    | .noRoom => (p, .noRoom)
    | .granted cs => ((p.grant t d cs).enterRunning t p.time, .done)
  | .defined, none => (p, .targetFree)
  | .ended, none => (p, .targetFree)
  | .running, _ => (p, .targetBusy)
  | .held, _ => (p, .targetBusy)
  | .stopping, _ => (p, .targetBusy)
  | .free, _ => (p, .targetFree)

/-- The outcome of a STOP link on a target in a state (R126). -/
def stopOutcome : JobState → LinkOutcome
  | .free => .targetFree
  | .defined => .targetIdle
  | .ended => .targetIdle
  | .armed => .done
  | .running => .done
  | .held => .done
  | .stopping => .done

/-- The end action of a job, absent in FREE. -/
def Part.endActionOf (p : Part) (j : JobId) : Option EndAction :=
  match p.jobs[j].defn with
  | none => none
  | some d => d.endAction

/-- The link outcome of an end action performed on the part that steps 1 to 5 leave: SUPPRESSED at LINK_LOST, else what its
link gives (R27 step 6, R125–R127). -/
def Part.actionOutcome (q : Part) (cause : EndCause) (action : EndAction) : LinkOutcome :=
  if cause = .linkLost then .suppressed
  else
    match action with
    | .start t => (q.startLink t).2
    | .stop t => stopOutcome q.jobs[t].state

/-- The effect of an end action on the part that steps 1 to 5 leave, `stopTarget` being what a STOP link does to a live target
(R27 step 6, R125, R126). -/
def Part.perform (stopTarget : Part → JobId → Part) (q : Part) (cause : EndCause) (action : EndAction) : Part :=
  if cause = .linkLost then q
  else
    match action with
    | .start t => (q.startLink t).1
    | .stop t => if q.jobs[t].state.live then stopTarget q t else q

/-- One ending with its end action (R27), `stopTarget` being what a STOP link does to a live target. -/
def Part.endWith (stopTarget : Part → JobId → Part) (p : Part) (j : JobId) (cause : EndCause) (endTime : Time) (sample : Nat) :
    Part :=
  let q := p.endSteps j cause endTime sample
  match p.endActionOf j with
  | none => q
  | some action => (Part.perform stopTarget q cause action).recordOutcome j p.reports.nextSeq (q.actionOutcome cause action)

/-- An ending with the cascade of STOP links that follows it, each target ending with LINKED_STOP at the link time (R126, R128).
The first argument bounds the links; the at most 32 links of a cascade (R128) never use it up. -/
def Part.cascade : Nat → Part → JobId → EndCause → Time → Nat → Part
  | 0 => Part.endWith (fun q _ => q)
  | n + 1 => Part.endWith (fun q t => Part.cascade n q t .linkedStop q.time 0)

/-- A job ends, with everything that follows in the same event (R27, R128). DEDUCED, log entry 38: where that starts the job again
(R128, R130), the next event of the same microsecond finds it RUNNING and acts on the new run, by R22 and R131; their
examples and the tables of R59 and its like show that event finding the job ENDED. -/
def Part.endJob (p : Part) (j : JobId) (cause : EndCause) (endTime : Time) (sample : Nat) : Part :=
  Part.cascade 32 p j cause endTime sample

/-- The record in which an ending puts its job: ENDED, with the result and the final link outcome. It stands in the job table
unless the end action, or the cascade, starts the job again in the same event (R128, R130); the reply to a STOP or an ALTER
that ended the job reports it even then (R18, R27, R128, R172; log entry 30). -/
def Part.endedRecord (p : Part) (j : JobId) (cause : EndCause) (endTime : Time) (sample : Nat) : Job :=
  let q := p.endSteps j cause endTime sample
  match p.endActionOf j with
  | none => q.jobs[j]
  | some action => q.jobs[j].withOutcome (q.actionOutcome cause action)

end Sys2Proof.Machine
end

