-- ==== Sys2Proof/Machine/Replies.lean ====
section
/-! DEFINITION. The bodies of OK replies that show a job: the summary (R172), the common part (R173) and the kind part (R174) of
a READ reply. -/

namespace Sys2Proof.Machine

open Sys2Proof

/-! ### The job summary (R172) -/

/-- The staged period, 4 bytes, and the staged width, 3 bytes (R172). -/
def stagedBytes : Option Staged → List Byte
  | none => beBytes 4 0 ++ beBytes 3 0
  | some (.period period) => beBytes 4 period ++ beBytes 3 0
  | some (.pair period width) => beBytes 4 period ++ beBytes 3 width

/-- End cause, final value, auxiliary value and link outcome; zero with no result (R172, R173). -/
def resultBytes : Option Result → List Byte
  | none => beBytes 1 0 ++ beBytes 5 0 ++ beBytes 4 0 ++ beBytes 1 0
  | some r => beBytes 1 r.cause.code ++ beBytes 5 r.final ++ beBytes 4 r.aux ++ beBytes 1 r.outcome.code

/-- The end time; zero with no result (R173). -/
def endTimeBytes : Option Result → List Byte
  | none => beBytes 6 0
  | some r => timeBytes r.endTime

/-- The kind code of a job; 0x00 when FREE (R168). -/
def Job.kindCode (b : Job) : Nat :=
  match b.defn with
  | none => 0
  | some d => d.work.kind.code

/-- The job summary of 23 bytes of a job record (R172). -/
def Job.summary (b : Job) (j : JobId) (replaced : Bool) : List Byte :=
  beBytes 1 (jobNumber j) ++ beBytes 1 b.state.code ++ beBytes 1 b.kindCode ++ beBytes 1 b.run.toNat ++
    beBytes 1 (summaryFlags b.reservation b.staged.isSome replaced) ++ stagedBytes b.staged ++ resultBytes b.result

/-- The job summary of a job as it stands (R5, R172). -/
def Part.summary (p : Part) (j : JobId) (replaced : Bool) : List Byte := p.jobs[j].summary j replaced

/-! ### READ: the common part (R19, R173) -/

/-- Start mode, arming line and arming polarity (R173). -/
def startModeBytes (m : StartMode) : List Byte :=
  match m with
  | .immediate => beBytes 1 m.code ++ [0xFF#8, 0x00#8]
  | .onLink => beBytes 1 m.code ++ [0xFF#8, 0x00#8]
  | .onEdge line polarity => beBytes 1 m.code ++ beBytes 1 line.val ++ beBytes 1 polarity.code

/-- Output line and idle level (R173). -/
def outputBytes : Option OutputUse → List Byte
  | none => [0xFF#8, 0x00#8]
  | some u => beBytes 1 u.line.val ++ beBytes 1 (levelCode u.idle)

/-- First and second cell held, 0xFF for none (R173). -/
def cellBytes : List CellId → List Byte
  | [] => [0xFF#8, 0xFF#8]
  | [low] => beBytes 1 low.val ++ [0xFF#8]
  | low :: high :: _ => beBytes 1 low.val ++ beBytes 1 high.val

/-- The common part of 38 bytes of a job with a definition (R173). -/
def Part.readCommon (p : Part) (j : JobId) (d : Definition) : List Byte :=
  let b := p.jobs[j]
  timeBytes p.time ++ beBytes 1 (jobNumber j) ++ beBytes 1 b.state.code ++ beBytes 1 d.work.kind.code ++
    beBytes 1 b.run.toNat ++ startModeBytes d.startMode ++ beBytes 1 (EndAction.code d.endAction) ++
    beBytes 1 (EndAction.targetNumber d.endAction) ++ outputBytes d.output ++ cellBytes b.cells ++ beBytes 1 b.lost ++
    beBytes 1 (if b.reservation then 1 else 0) ++ resultBytes b.result ++ endTimeBytes b.result

/-! ### READ: the kind part (R174) -/

/-- Whether the gate of a COUNT job is open now; YES with no gate (R37, R58). -/
def Part.gateOpen (p : Part) (c : CountParams) : Bool :=
  match c.gate with
  | none => true
  | some g => decide (p.inputs[g.line].filtered = g.level)

/-- The count READ shows: the cells' while the job is live, the progress's otherwise (R58). -/
def Part.countShown (p : Part) (j : JobId) (g : CountProgress) : Nat :=
  if p.jobs[j].state.live then p.countOf j else g.count

/-- Elapsed time of an open interval, saturating at 4,294,967,295 (R65, R78, R174). -/
def OpenInterval.elapsed (i : OpenInterval) (t : Time) : Nat :=
  if i.aged then max32 else min max32 (t - i.openedAt).toNat

/-- The time READ shows from the snapshot to an event: the event's time minus the snapshot time, and, for an event that lies
before the snapshot, a FREE VALUE of at most `largest`, since R78, R108 and R120 state none (log entry 2). -/
def timeTo (overdue : Time → Time → Nat) (largest : Nat) (now due : Time) : Nat :=
  if now = due then 0 else if reached now due then min largest (overdue due now) else (due - now).toNat

/-- What a MEASURE job has in progress, with the elapsed time or the edges so far, and the time to the window end
(R78, R174). -/
def Part.measureInProgress (p : Part) (j : JobId) (m : MeasureParams) (g : MeasureProgress) : List Byte :=
  match m.mode, g.interval, g.windowStart with
  | .rate _ window, _, some start =>
    beBytes 1 2 ++ beBytes 4 (p.countOf j) ++ beBytes 4 (timeTo Config.overdueWindow max32 p.time (plus start window))
  | .rate _ _, _, none => beBytes 1 0 ++ beBytes 4 0 ++ beBytes 4 0
  | .period, some i, _ => beBytes 1 1 ++ beBytes 4 (i.elapsed p.time) ++ beBytes 4 0
  | .high, some i, _ => beBytes 1 1 ++ beBytes 4 (i.elapsed p.time) ++ beBytes 4 0
  | .low, some i, _ => beBytes 1 1 ++ beBytes 4 (i.elapsed p.time) ++ beBytes 4 0
  | .period, none, _ => beBytes 1 0 ++ beBytes 4 0 ++ beBytes 4 0
  | .high, none, _ => beBytes 1 0 ++ beBytes 4 0 ++ beBytes 4 0
  | .low, none, _ => beBytes 1 0 ++ beBytes 4 0 ++ beBytes 4 0

/-- Whether a STALL entry is held, and the time to stall, 0 to 2^32 (R78, R174). -/
def Part.stallShown (p : Part) (j : JobId) : List Byte :=
  match p.entryOf j with
  | none => yesNo false ++ beBytes 5 0
  | some e =>
    if e.purpose = .stall then yesNo true ++ beBytes 5 (timeTo Config.overdueStall (2 ^ 32) p.time e.due)
    else yesNo false ++ beBytes 5 0

/-- The remaining time READ shows of a DELAY job (R90). -/
def Part.delayRemaining (p : Part) (j : JobId) (d : DelayParams) (g : DelayProgress) : Nat :=
  match p.jobs[j].state with
  | .running => p.timeLeftOf j
  | .stopping => p.timeLeftOf j
  | .defined => d.duration
  | .armed => d.duration
  | .free => g.remaining
  | .held => g.remaining
  | .ended => g.remaining

/-- The time to the next tick READ shows, absent in ENDED (R98). -/
def Part.timeToTick (p : Part) (j : JobId) (k : TickParams) (g : TickProgress) : Option Nat :=
  match p.jobs[j].state with
  | .running => some (p.timeLeftOf j)
  | .stopping => some (p.timeLeftOf j)
  | .defined => some k.period
  | .armed => some k.period
  | .held => some g.remaining
  | .free => none
  | .ended => none

/-- The time to the end of the phase that the cell of a WAVE job measures out, 0 with none (R108). -/
def Part.phaseLeft (p : Part) (j : JobId) : Nat :=
  match p.phaseOf j with
  | none => 0
  | some ph => timeTo Config.overduePhase 16777215 p.time ph.endTime

/-- An absent number is sent as 0 (R174). -/
def orZero : Option Nat → Nat
  | none => 0
  | some n => n

/-- The staged period of a TICK job, 0 when absent (R174). -/
def stagedPeriod : Option Staged → Nat
  | some (.period period) => period
  | some (.pair period _) => period
  | none => 0

/-- The staged width of a WAVE job, 0 when absent (R174). -/
def stagedWidth : Option Staged → Nat
  | some (.pair _ width) => width
  | some (.period _) => 0
  | none => 0

/-- The kind part of a READ reply (R174). -/
def Part.readKind (p : Part) (j : JobId) (w : Work) : List Byte :=
  match w with
  | .count c g =>
    beBytes 4 (p.countShown j g) ++ beBytes 4 g.blocked ++ yesNo (p.gateOpen c) ++ beBytes 4 c.limit ++ beBytes 2 c.step
  | .measure m g =>
    beBytes 1 m.mode.code ++ beBytes 4 m.lowLimit ++ beBytes 4 m.highLimit ++ beBytes 1 m.reportInterval ++
      beBytes 4 g.accepted ++ beBytes 4 (orZero g.last) ++ beBytes 4 (orZero g.minimum) ++ beBytes 4 (orZero g.maximum) ++
      beBytes 1 g.sinceReport ++ p.measureInProgress j m g ++ p.stallShown j
  | .delay d g =>
    beBytes 4 d.duration ++ beBytes 4 (p.delayRemaining j d g) ++
      yesNo (decide (p.jobs[j].state = .running) && (p.ownedOutput j).isSome)
  | .tick k g =>
    beBytes 4 g.ticksDone.toNat ++ yesNo (p.timeToTick j k g).isSome ++ beBytes 4 (orZero (p.timeToTick j k g)) ++
      beBytes 4 k.period ++ beBytes 2 k.limit ++ beBytes 4 (stagedPeriod p.jobs[j].staged)
  | .wave v g =>
    beBytes 4 g.pulses.toNat ++ beBytes 1 (WavePhase.code g.phase) ++
      beBytes 3 (if g.phase.isSome then p.phaseLeft j else 0) ++
      beBytes 3 (match g.periodStart with
        | none => 0
        | some t => (p.time - t).toNat) ++
      beBytes 3 v.period ++ beBytes 3 v.width ++ beBytes 2 v.limit ++ beBytes 3 (stagedPeriod p.jobs[j].staged) ++
      beBytes 3 (stagedWidth p.jobs[j].staged)
  | .echo e g =>
    beBytes 3 e.delay ++ beBytes 2 e.width ++ beBytes 1 e.overlap.code ++ beBytes 2 e.limit ++ beBytes 4 g.pulses.toNat ++
      beBytes 4 g.missed ++ beBytes 4 g.slipped ++ beBytes 4 g.cut ++ yesNo g.pulse.isSome ++
      beBytes 2 (match g.pulse with
        | none => 0
        | some u => timeTo Config.overduePulse 65535 p.time u.endTime) ++
      beBytes 1 g.pendingList.length ++ g.pendingList.flatMap (fun x => timeBytes x.due)

end Sys2Proof.Machine
end

