-- ==== Sys2Proof/Machine/JobCommands.lean ====
section
/-! DEFINITION. The commands that act on jobs: DEFINE, START, STOP, HOLD, RESUME, ALTER, READ, DELETE and LIST, with the order
of their checks (R5, R159) and their layouts (R169–R174). -/

namespace Sys2Proof.Machine

open Sys2Proof

/-! ### Checks -/

/-- The first check of a list that fails, each given as its field index and whether it fails (R5, R167). -/
def firstFailing : List (Nat × Bool) → Option Nat
  | [] => none
  | (index, fails) :: rest => if fails then some index else firstFailing rest

/-- The length check and the job number check that open every job command (R159, R5). -/
def onJob (payload : List Byte) (lengthOk : Bool) (act : JobId → Verdict) : Verdict :=
  if lengthOk then
    match jobOfNumber (field payload 0 1) with
    | none => .deny .badJob 0
    | some j => act j
  else .deny .badLength 0

/-- An OK reply with the summary of the job as it stands after the command (R5, R172). A command that ends its job answers
with `Part.takenEnding` instead. -/
def Part.takenSummary (p : Part) (j : JobId) (replaced : Bool) : Verdict := .taken p (p.summary j replaced)

/-- A command ends its job at the present device time, and its OK reply reports the job ENDED with the result and the final
link outcome (R18, R27, R56, R76, R128, R172). Where the ending starts the job again in the same event (R128, R130), R5 and
R166 would show it RUNNING: DEDUCED, log entry 30, that the reply still reports the ended run. -/
def Part.takenEnding (p : Part) (j : JobId) (cause : EndCause) : Verdict :=
  .taken (p.endJob j cause p.time 0) ((p.endedRecord j cause p.time 0).summary j false)

/-! ### DEFINE (R6, R7, R170) -/

/-- The byte that holds the one-byte field `n` of the common part of a DEFINE payload (R170). -/
def common (payload : List Byte) (n : Nat) : Nat := field payload (n - 1) 1

/-- The payload length DEFINE takes for a kind (R169). -/
def defineLength : JobKind → Nat
  | .count => 20 | .measure => 26 | .delay => 13 | .tick => 15 | .wave => 17 | .echo => 19

/-- The length check of DEFINE, which reads the kind byte (R169). -/
def defineLengthOk (payload : List Byte) : Bool :=
  match JobKind.ofCode (common payload 2) with
  | some k => decide (payload.length = defineLength k)
  | none => decide (9 ≤ payload.length)

/-- The line checks of the block of a kind (R46, R61, R110, R170). -/
def blockLineChecks (payload : List Byte) : JobKind → List (Nat × Bool)
  | .count =>
    [(10, decide (16 ≤ field payload 9 1)),
     (13, decide (16 ≤ field payload 12 1) && decide (field payload 12 1 ≠ 0xFF))]
  | .measure => [(10, decide (16 ≤ field payload 9 1))]
  | .echo => [(10, decide (16 ≤ field payload 9 1))]
  | .delay => []
  | .tick => []
  | .wave => []

/-- The line checks of DEFINE in payload order (R5, R170). -/
def defineLineChecks (payload : List Byte) : List (Nat × Bool) :=
  [(4, decide (common payload 3 = 2) && decide (16 ≤ common payload 4)),
   (8, decide (8 ≤ common payload 8) && decide (common payload 8 ≠ 0xFF))] ++
  match JobKind.ofCode (common payload 2) with
  | some k => blockLineChecks payload k
  | none => []

/-- Whether a kind refuses the output line field of a DEFINE whose line check has passed (R7, R170). -/
def outputRefused (kind : JobKind) (output : Nat) : Bool :=
  match kind with
  | .wave => decide (output = 0xFF)
  | .echo => decide (output = 0xFF)
  | .count => decide (output ≠ 0xFF)
  | .measure => decide (output ≠ 0xFF)
  | .tick => decide (output ≠ 0xFF)
  | .delay => false

/-- 2^width − 1 for the code of a width (R46, R170). -/
def largestOfWidthCode (code : Nat) : Nat := if code = 0x20 then 4294967295 else 65535

/-- The value checks of the block of a kind, in field order (R46, R61, R85, R91, R101, R110). -/
def blockValueChecks (payload : List Byte) : JobKind → List (Nat × Bool)
  | .count =>
    [(11, (EdgeSelect.ofCode (field payload 10 1)).isNone),
     (12, decide (field payload 11 1 ≠ 0x10) && decide (field payload 11 1 ≠ 0x20)),
     (13, decide (field payload 12 1 ≠ 0xFF) && decide (field payload 12 1 = field payload 9 1)),
     (14, decide (field payload 12 1 ≠ 0xFF) && (levelOfCode (field payload 13 1)).isNone),
     (15, decide (largestOfWidthCode (field payload 11 1) < field payload 14 4)),
     (16, decide (65535 < field payload 18 2))]
  | .measure =>
    [(11, decide (field payload 10 1 < 1) || decide (4 < field payload 10 1)),
     (12, decide (field payload 10 1 = 4) && (EdgeSelect.ofCode (field payload 11 1)).isNone),
     (13, if field payload 10 1 = 4 then decide (field payload 12 4 < 1000) || decide (10000000 < field payload 12 4)
       else decide (field payload 12 4 ≠ 0)),
     (14, decide (4294967295 < field payload 16 4)),
     (15, decide (4294967295 < field payload 20 4) ||
       (decide (field payload 16 4 ≠ 0) && decide (field payload 20 4 ≠ 0) && decide (field payload 20 4 < field payload 16 4))),
     (16, decide (1 < field payload 24 1) ||
       (decide (field payload 24 1 = 1) && (decide (field payload 10 1 = 4) || decide (field payload 20 4 = 0)))),
     (17, decide (255 < field payload 25 1))]
  | .delay => [(10, decide (field payload 9 4 = 0) || decide (4294967295 < field payload 9 4))]
  | .tick =>
    [(10, decide (field payload 9 4 < 10) || decide (4294967295 < field payload 9 4)),
     (11, decide (65535 < field payload 13 2))]
  | .wave =>
    [(10, decide (field payload 9 3 < 10) || decide (16777215 < field payload 9 3)),
     (11, decide (field payload 12 3 = 0) || decide (field payload 9 3 ≤ field payload 12 3)),
     (12, decide (65535 < field payload 15 2))]
  | .echo =>
    [(11, (Polarity.ofCode (field payload 10 1)).isNone),
     (12, decide (16777215 < field payload 11 3)),
     (13, decide (field payload 14 2 = 0) || decide (65535 < field payload 14 2)),
     (14, (Overlap.ofCode (field payload 16 1)).isNone),
     (15, decide (65535 < field payload 17 2))]

/-- The value checks of DEFINE in field order (R7, R170). -/
def defineValueChecks (payload : List Byte) : List (Nat × Bool) :=
  [(2, (JobKind.ofCode (common payload 2)).isNone),
   (3, decide (2 < common payload 3)),
   (5, decide (common payload 3 = 2) && (Polarity.ofCode (common payload 5)).isNone),
   (6, decide (2 < common payload 6)),
   (7, decide (common payload 6 ≠ 0) && !jobNumberOk (common payload 7))] ++
  match JobKind.ofCode (common payload 2) with
  | some k =>
    [(8, outputRefused k (common payload 8)),
     (9, decide (common payload 8 ≠ 0xFF) && (levelOfCode (common payload 9)).isNone)] ++ blockValueChecks payload k
  | none => []

/-- The input line a field whose check has passed names. -/
def inputField (n : Nat) : InId := Fin.ofNat 16 n

/-- The polarity a field whose check has passed names (R168). -/
def polarityField (n : Nat) : Polarity := (Polarity.ofCode n).getD .rising

/-- The edge selection a field whose check has passed names (R168). -/
def edgeField (n : Nat) : EdgeSelect := (EdgeSelect.ofCode n).getD .both

/-- The level a field whose check has passed names (R168). -/
def levelField (n : Nat) : Level := (levelOfCode n).getD .low

/-- The overlap policy a field whose check has passed names (R168). -/
def overlapField (n : Nat) : Overlap := (Overlap.ofCode n).getD .queue

/-- The mode of a MEASURE block whose checks have passed; rate edge and window length are kept in RATE mode only (R61, R168). -/
def measureModeField (payload : List Byte) : MeasureMode :=
  match field payload 10 1 with
  | 1 => .period
  | 2 => .high
  | 3 => .low
  | _ => .rate (edgeField (field payload 11 1)) (field payload 12 4)

/-- The start mode a checked payload gives (R170). -/
def definedStartMode (payload : List Byte) : StartMode :=
  match common payload 3 with
  | 0 => .immediate
  | 1 => .onLink
  | _ => .onEdge (inputField (common payload 4)) (polarityField (common payload 5))

/-- The end action a checked payload gives (R122, R170). -/
def definedEndAction (payload : List Byte) : Option EndAction :=
  match common payload 6 with
  | 0 => none
  | 1 => some (.start (Fin.ofNat 32 (common payload 7 - 1)))
  | _ => some (.stop (Fin.ofNat 32 (common payload 7 - 1)))

/-- The output line a checked payload gives (R170). -/
def definedOutput (payload : List Byte) : Option OutputUse :=
  if common payload 8 = 0xFF then none
  else some { line := Fin.ofNat 8 (common payload 8), idle := levelField (common payload 9) }

/-- The kind and parameters a checked payload gives, with the progress at its start values (R6, R170). -/
def definedWork (payload : List Byte) : JobKind → Work
  | .count => (Work.count
      { source := inputField (field payload 9 1), edge := edgeField (field payload 10 1),
        width := if field payload 11 1 = 0x20 then .w32 else .w16,
        gate := if field payload 12 1 = 0xFF then none
          else some { line := inputField (field payload 12 1), level := levelField (field payload 13 1) },
        limit := field payload 14 4, step := field payload 18 2 } { count := 0, blocked := 0 }).fresh
  | .measure => (Work.measure
      { source := inputField (field payload 9 1), mode := measureModeField payload, lowLimit := field payload 16 4,
        highLimit := field payload 20 4, stall := decide (field payload 24 1 = 1), reportInterval := field payload 25 1 }
      { accepted := 0, last := none, minimum := none, maximum := none, sinceReport := 0, interval := none, stallRef := none,
        windowStart := none }).fresh
  | .delay => (Work.delay { duration := field payload 9 4 } { remaining := 0 }).fresh
  | .tick => (Work.tick { period := field payload 9 4, limit := field payload 13 2 } { ticksDone := 0#32, remaining := 0 }).fresh
  | .wave => (Work.wave { period := field payload 9 3, width := field payload 12 3, limit := field payload 15 2 }
      { pulses := 0#32, phase := none, periodStart := none, turnsLeft := 0 }).fresh
  | .echo => (Work.echo
      { source := inputField (field payload 9 1), edge := polarityField (field payload 10 1), delay := field payload 11 3,
        width := field payload 14 2, overlap := overlapField (field payload 16 1), limit := field payload 17 2 }
      { pendingList := [], pulse := none, pulses := 0#32, missed := 0, slipped := 0, cut := 0 }).fresh

/-- The definition a checked payload gives (R6). -/
def definitionOf (payload : List Byte) (kind : JobKind) : Definition :=
  { startMode := definedStartMode payload, endAction := definedEndAction payload, output := definedOutput payload,
    entryTime := 0#48, work := definedWork payload kind }

/-- The job record that DEFINE leaves: DEFINED, run 0, lost 0, nothing held (R2, R3, R6). -/
def Job.defined (d : Definition) : Job := { Job.free with state := .defined, defn := some d }

/-- DEFINE is taken on a job in FREE, DEFINED or ENDED (R6). -/
def JobState.definable : JobState → Bool
  | .free => true
  | .defined => true
  | .ended => true
  | .armed => false
  | .running => false
  | .held => false
  | .stopping => false

/-- DEFINE (R6, R7, R170). -/
def actDefine (p : Part) (payload : List Byte) : Verdict :=
  onJob payload (defineLengthOk payload) fun j =>
    match firstFailing (defineLineChecks payload) with
    | some index => .deny .badLine index
    | none =>
      if p.jobs[j].state.definable then
        match firstFailing (defineValueChecks payload), JobKind.ofCode (common payload 2) with
        | some index, _ => .deny .badParam index
        | none, none => .deny .badParam 2
        | none, some kind => (p.setJob j (Job.defined (definitionOf payload kind))).takenSummary j false
      else .deny .wrongState 0

/-! ### START (R8–R10) -/

/-- A start by command of a job whose claims are granted: ARMED or RUNNING by its start mode (R8, R123). -/
def Part.startGranted (p : Part) (j : JobId) (d : Definition) (cs : List CellId) : Part :=
  match d.startMode with
  | .immediate => (p.grant j d cs).enterRunning j p.time
  | .onLink => (p.grant j d cs).setState j .armed
  | .onEdge _ _ => (p.grant j d cs).setState j .armed

/-- The claims of a START command and what they come to (R8, R9). -/
def Part.startDefined (p : Part) (j : JobId) (d : Definition) : Verdict :=
  match p.claim j d with
  | .lineBusy k => .deny .lineBusy (jobNumber k)
  | .noCells => .deny .noCells 0
  | .noRoom => .deny .noRoom 0
  | .granted cs => (p.startGranted j d cs).takenSummary j false

/-- START (R8). -/
def actStart (p : Part) (payload : List Byte) : Verdict :=
  onJob payload (decide (payload.length = 1)) fun j =>
    match p.jobs[j].state, p.jobs[j].defn with
    | .defined, some d => p.startDefined j d
    | .ended, some d => p.startDefined j d
    | .defined, none => .deny .wrongState 0
    | .ended, none => .deny .wrongState 0
    | .free, _ => .deny .wrongState 0
    | .armed, _ => .deny .wrongState 0
    | .running, _ => .deny .wrongState 0
    | .held, _ => .deny .wrongState 0
    | .stopping, _ => .deny .wrongState 0

/-! ### STOP (R12–R14) -/

/-- A kind that STOP with finish set moves into STOPPING because its boundary is still ahead (R13, R118). -/
def Work.finishes : Work → Bool
  | .tick _ _ => true
  | .wave _ _ => true
  | .echo _ g => !(g.pendingList.isEmpty && g.pulse.isNone)
  | .count _ _ => false
  | .measure _ _ => false
  | .delay _ _ => false

/-- A RUNNING job enters STOPPING; a staged alteration is discarded (R13). -/
def Part.enterStopping (p : Part) (j : JobId) : Part :=
  p.setJob j { p.jobs[j] with state := .stopping, staged := none }

/-- STOP on a live job, `finish` being the finish flag: it enters STOPPING, or ends with HOST_STOP (R12–R14). -/
def Part.stopLive (p : Part) (j : JobId) (finish : Bool) : Verdict :=
  match p.jobs[j].state, p.workOf j with
  | .running, some w =>
    if finish && w.finishes then (p.enterStopping j).takenSummary j false else p.takenEnding j .hostStop
  | .running, none => p.takenEnding j .hostStop
  | .armed, _ => p.takenEnding j .hostStop
  | .held, _ => p.takenEnding j .hostStop
  | .stopping, _ => p.takenEnding j .hostStop
  | .free, _ => p.takenEnding j .hostStop
  | .defined, _ => p.takenEnding j .hostStop
  | .ended, _ => p.takenEnding j .hostStop

/-- STOP (R12–R14, R171). A finish byte outside its codes is refused once the state has passed; a STOPPING job passes the
state check unless the byte is 0x01 (log entry 7). -/
def actStop (p : Part) (payload : List Byte) : Verdict :=
  onJob payload (decide (payload.length = 2)) fun j =>
    if !p.jobs[j].state.live then .deny .wrongState 0
    else if p.jobs[j].state = .stopping ∧ field payload 1 1 = 1 then .deny .wrongState 0
    else if 1 < field payload 1 1 then .deny .badParam 2
    else p.stopLive j (decide (field payload 1 1 = 1))

/-! ### HOLD and RESUME (R15, R16) -/

/-- HOLD (R15). -/
def actHold (p : Part) (payload : List Byte) : Verdict :=
  onJob payload (decide (payload.length = 1)) fun j =>
    if p.jobs[j].state = .running then (p.holdJob j).takenSummary j false else .deny .wrongState 0

/-- RESUME (R16). -/
def actResume (p : Part) (payload : List Byte) : Verdict :=
  onJob payload (decide (payload.length = 1)) fun j =>
    if p.jobs[j].state = .held then (p.resumeJob j).takenSummary j false else .deny .wrongState 0

/-! ### ALTER (R17, R18, R171) -/

/-- The payload length ALTER takes for a kind; DELAY names no ALTER kind (R169). -/
def alterLength : JobKind → Option Nat
  | .count => some 8 | .measure => some 11 | .delay => none | .tick => some 6 | .wave => some 8 | .echo => some 7

/-- The length ALTER takes when field 2 holds a code, or none when any length of at least 2 passes (R169). -/
def alterLengthOf (code : Nat) : Option Nat :=
  match JobKind.ofCode code with
  | none => none
  | some k => alterLength k

/-- The length check of ALTER, which reads the kind byte (R169). -/
def alterLengthOk (payload : List Byte) : Bool :=
  match alterLengthOf (field payload 1 1) with
  | some n => decide (payload.length = n)
  | none => decide (2 ≤ payload.length)

/-- ALTER is taken on a job in ARMED, RUNNING or HELD (R17). -/
def JobState.alterable : JobState → Bool
  | .armed => true
  | .running => true
  | .held => true
  | .free => false
  | .defined => false
  | .stopping => false
  | .ended => false

/-- The value checks of ALTER, in field order (R55, R75, R96, R104, R116). -/
def alterValueChecks (payload : List Byte) : Work → List (Nat × Bool)
  | .count c _ =>
    [(3, decide (c.width.largest < field payload 2 4)), (4, decide (65535 < field payload 6 2))]
  | .measure m _ =>
    [(3, decide (4294967295 < field payload 2 4)),
     (4, decide (4294967295 < field payload 6 4) ||
       (decide (field payload 2 4 ≠ 0) && decide (field payload 6 4 ≠ 0) && decide (field payload 6 4 < field payload 2 4)) ||
       (m.stall && decide (field payload 6 4 = 0))),
     (5, decide (255 < field payload 10 1))]
  | .delay _ _ => []
  | .tick _ _ => [(3, decide (field payload 2 4 < 10) || decide (4294967295 < field payload 2 4))]
  | .wave _ _ =>
    [(3, decide (field payload 2 3 < 10) || decide (16777215 < field payload 2 3)),
     (4, decide (field payload 5 3 = 0) || decide (field payload 2 3 ≤ field payload 5 3))]
  | .echo _ _ =>
    [(3, decide (16777215 < field payload 2 3)),
     (4, decide (field payload 5 2 = 0) || decide (65535 < field payload 5 2))]

/-- A COUNT job takes a new limit and report step at once; in RUNNING and HELD a nonzero limit at or below the count ends it
(R55, R56). -/
def Part.alterCount (p : Part) (j : JobId) (c : CountParams) (g : CountProgress) (limit step : Nat) : Verdict :=
  let q := p.setWork j (.count { c with limit := limit, step := step } g)
  if p.jobs[j].state ≠ .armed ∧ limit ≠ 0 ∧ limit ≤ p.countOf j then q.takenEnding j .limitReached
  else q.takenSummary j false

/-- The reference that a STALL entry was placed from (R76). -/
def MeasureProgress.stallReference (g : MeasureProgress) : Option Time :=
  match g.interval with
  | some i => some i.openedAt
  | none => g.stallRef

/-- Whether a job holds a STALL entry. -/
def Part.holdsStall (p : Part) (j : JobId) : Bool :=
  match p.entryOf j with
  | none => false
  | some e => decide (e.purpose = .stall)

/-- The STALL entry of a job is recomputed with the high limit in force; a due time already reached ends the job with STALL
(R76). -/
def Part.recomputeStall (p : Part) (j : JobId) (g : MeasureProgress) (highLimit : Nat) : Verdict :=
  if p.holdsStall j then
    match g.stallReference with
    | none => p.takenSummary j false
    | some ref =>
      if reached p.time (stallDue ref highLimit) then p.takenEnding j .stall
      else (p.place j .stall (stallDue ref highLimit)).takenSummary j false
  else p.takenSummary j false

/-- A MEASURE job takes new limits and a new report interval at once (R76). -/
def Part.alterMeasure (p : Part) (j : JobId) (m : MeasureParams) (g : MeasureProgress) (lowLimit highLimit report : Nat) :
    Verdict :=
  (p.setWork j (.measure { m with lowLimit := lowLimit, highLimit := highLimit, reportInterval := report }
    { g with sinceReport := if report = 0 then 0 else g.sinceReport })).recomputeStall j g highLimit

/-- Whether an ALTER replaces a staged value: the staged-replaced indication (R18, R172). -/
def Part.replacesStaged (p : Part) (j : JobId) : Bool :=
  decide (p.jobs[j].state ≠ .armed) && p.jobs[j].staged.isSome

/-- A TICK job takes a new period: at once in ARMED, staged otherwise (R96). -/
def Part.alterTick (p : Part) (j : JobId) (k : TickParams) (g : TickProgress) (period : Nat) : Part :=
  if p.jobs[j].state = .armed then p.setWork j (.tick { k with period := period } g)
  else p.setStaged j (some (.period period))

/-- A WAVE job takes a new pair: at once in ARMED, staged otherwise (R104). -/
def Part.alterWave (p : Part) (j : JobId) (w : WaveParams) (g : WaveProgress) (period width : Nat) : Part :=
  if p.jobs[j].state = .armed then p.setWork j (.wave { w with period := period, width := width } g)
  else p.setStaged j (some (.pair period width))

/-- The effect and the reply of an ALTER whose checks have passed (R18); only TICK and WAVE can replace a staged value
(R172). DEDUCED, log entry 36: the new delay and width of an ECHO job apply to every edge whose delivery is taken after the
ALTER, by R116 and R121, also to one accepted before it in the same microsecond; R18 has them apply to edges accepted
afterwards. -/
def Part.alterChecked (p : Part) (j : JobId) (w : Work) (payload : List Byte) : Verdict :=
  match w with
  | .count c g => p.alterCount j c g (field payload 2 4) (field payload 6 2)
  | .measure m g => p.alterMeasure j m g (field payload 2 4) (field payload 6 4) (field payload 10 1)
  | .delay _ _ => p.takenSummary j false
  | .tick k g => (p.alterTick j k g (field payload 2 4)).takenSummary j (p.replacesStaged j)
  | .wave v g => (p.alterWave j v g (field payload 2 3) (field payload 5 3)).takenSummary j (p.replacesStaged j)
  | .echo e g => (p.setWork j (.echo { e with delay := field payload 2 3, width := field payload 5 2 } g)).takenSummary j false

/-- ALTER (R17, R18, R171). -/
def actAlter (p : Part) (payload : List Byte) : Verdict :=
  onJob payload (alterLengthOk payload) fun j =>
    match p.jobs[j].state.alterable, p.workOf j with
    | false, _ => .deny .wrongState 0
    | true, none => .deny .wrongState 0
    | true, some w =>
      if w.kind = .delay ∨ JobKind.ofCode (field payload 1 1) ≠ some w.kind then .deny .wrongKind 0
      else
        match firstFailing (alterValueChecks payload w) with
        | some index => .deny .badParam index
        | none => p.alterChecked j w payload

/-! ### READ, DELETE and LIST (R19, R20) -/

/-- READ (R19, R173, R174). -/
def actRead (p : Part) (payload : List Byte) : Verdict :=
  onJob payload (decide (payload.length = 1)) fun j =>
    match p.jobs[j].state, p.jobs[j].defn with
    | .free, _ => .deny .wrongState 0
    | _, none => .deny .wrongState 0
    | _, some d => .taken p (p.readCommon j d ++ p.readKind j d.work)

/-- DELETE (R20). -/
def actDelete (p : Part) (payload : List Byte) : Verdict :=
  onJob payload (decide (payload.length = 1)) fun j =>
    match p.jobs[j].state with
    | .defined => (p.setJob j Job.free).takenSummary j false
    | .ended => (p.setJob j Job.free).takenSummary j false
    | .free => .deny .wrongState 0
    | .armed => .deny .wrongState 0
    | .running => .deny .wrongState 0
    | .held => .deny .wrongState 0
    | .stopping => .deny .wrongState 0

/-- The three bytes LIST shows of a job (R20, R176). -/
def Job.listBytes (b : Job) : List Byte := beBytes 1 b.state.code ++ beBytes 1 b.kindCode ++ beBytes 1 b.run.toNat

/-- LIST (R20, R176). -/
def actList (p : Part) (payload : List Byte) : Verdict :=
  if payload.length = 0 then .taken p (timeBytes p.time ++ p.jobs.toList.flatMap Job.listBytes) else .deny .badLength 0

/-! ### The meanings -/

/-- DEFINE: intake of a frame of kind 0x02 (R6, R159). -/
def execDefine (s : State) : Host.Outcome State Fault Refusal := .next { s with toPart := s.toPart.command 0x02#8 actDefine }

/-- START: intake of a frame of kind 0x03 (R8, R159). -/
def execStart (s : State) : Host.Outcome State Fault Refusal := .next { s with toPart := s.toPart.command 0x03#8 actStart }

/-- STOP: intake of a frame of kind 0x04 (R12–R14, R159). -/
def execStop (s : State) : Host.Outcome State Fault Refusal := .next { s with toPart := s.toPart.command 0x04#8 actStop }

/-- HOLD: intake of a frame of kind 0x05 (R15, R159). -/
def execHold (s : State) : Host.Outcome State Fault Refusal := .next { s with toPart := s.toPart.command 0x05#8 actHold }

/-- RESUME: intake of a frame of kind 0x06 (R16, R159). -/
def execResume (s : State) : Host.Outcome State Fault Refusal := .next { s with toPart := s.toPart.command 0x06#8 actResume }

/-- ALTER: intake of a frame of kind 0x07 (R17, R18, R159). -/
def execAlter (s : State) : Host.Outcome State Fault Refusal := .next { s with toPart := s.toPart.command 0x07#8 actAlter }

/-- READ: intake of a frame of kind 0x08 (R19, R159). -/
def execRead (s : State) : Host.Outcome State Fault Refusal := .next { s with toPart := s.toPart.command 0x08#8 actRead }

/-- DELETE: intake of a frame of kind 0x09 (R20, R159). -/
def execDelete (s : State) : Host.Outcome State Fault Refusal := .next { s with toPart := s.toPart.command 0x09#8 actDelete }

/-- LIST: intake of a frame of kind 0x0A (R20, R159). -/
def execList (s : State) : Host.Outcome State Fault Refusal := .next { s with toPart := s.toPart.command 0x0A#8 actList }

end Sys2Proof.Machine
end

