-- ==== Sys2Proof/Machine/DeviceCommands.lean ====
section
/-! DEFINITION. The commands that act on the device, the lines, the Delivery Controller and the Host Port: IDENT, ACK, RECONNECT,
LINKCFG, LINECFG, DRIVE, SENSE, TIME, LINKSTAT, RESET, and the intake of an unknown kind (R166, R176–R179). -/

namespace Sys2Proof.Machine

open Sys2Proof

/-! ### IDENT and TIME (R176) -/

/-- IDENT: family code, part revision and the device's fixed sizes (R176). -/
def actIdent (p : Part) (payload : List Byte) : Verdict :=
  if payload.length = 0 then
    .taken p (Config.familyCode ++ [Config.partRevision, 32#8, 24#8, 16#8, 8#8, 64#8, 8#8, 8#8, 2#8, 4#8, 200#8])
  else .deny .badLength 0

/-- TIME: the device time at which the command is taken (R31, R176). -/
def actTime (p : Part) (payload : List Byte) : Verdict :=
  if payload.length = 0 then .taken p (timeBytes p.time) else .deny .badLength 0

/-! ### The Delivery Controller: ACK, RECONNECT, LINKCFG (R140, R141, R146, R147, R178) -/

/-- How many entries an ACK of `s` removes: those from the head through the SENT or RESEND entry with sequence `s`;
absent when `s` names no such entry (R140). -/
def ackSpan (s : BitVec 16) : List ReportEntry → Option Nat
  | [] => none
  | e :: es => if e.seq = s ∧ e.delivery ≠ .new then some 1 else (ackSpan s es).map (· + 1)

/-- The stale case of R140: (oldest sequence − s) modulo 65,536 is 1–64. -/
def Reporter.stale (r : Reporter) (s : BitVec 16) : Bool :=
  decide (1 ≤ (r.oldestSeq - s).toNat) && decide ((r.oldestSeq - s).toNat ≤ 64)

/-- What the retransmit timer does after a removing ACK, `q` being the entries that remain (R141, R142). -/
def Reporter.timerAfterAck (r : Reporter) (now : Time) (q : List ReportEntry) : Option Time :=
  match r.link with
  | .up => if sentCount q = 0 then none else some (plus now r.intervalMicros)
  | .lost => none

/-- An ACK that removes `n` entries (R141). -/
def Reporter.remove (r : Reporter) (now : Time) (n : Nat) : Reporter :=
  { r with queue := r.queue.drop n, retry := 0, timer := r.timerAfterAck now (r.queue.drop n) }

/-- The body of an OK reply to ACK (R178). -/
def ackBody (removed : Nat) (oldest : BitVec 16) : List Byte := beBytes 1 removed ++ beBytes 2 oldest.toNat

/-- ACK (R140, R141, R178). -/
def actAck (p : Part) (payload : List Byte) : Verdict :=
  if payload.length = 2 then
    match ackSpan (BitVec.ofNat 16 (field payload 0 2)) p.reports.queue with
    | some n =>
      .taken { p with reports := p.reports.remove p.time n } (ackBody n (p.reports.remove p.time n).oldestSeq)
    | none =>
      if p.reports.stale (BitVec.ofNat 16 (field payload 0 2)) then .taken p (ackBody 0 p.reports.oldestSeq)
      else .deny .badAck 0
  else .deny .badLength 0

/-- Every SENT entry becomes RESEND, keeping its place (R143, R146). -/
def resendAll (q : List ReportEntry) : List ReportEntry :=
  q.map (fun e => if e.delivery = .sent then { e with delivery := .resend } else e)

/-- RECONNECT's effect (R146). -/
def Reporter.reconnect (r : Reporter) : Reporter :=
  { r with link := .up, retry := 0, queue := resendAll r.queue, timer := none }

/-- RECONNECT (R146, R178). -/
def actReconnect (p : Part) (payload : List Byte) : Verdict :=
  if payload.length = 0 then
    .taken { p with reports := p.reports.reconnect }
      (beBytes 2 p.reports.reconnect.oldestSeq.toNat ++ beBytes 1 p.reports.queue.length ++ beBytes 1 p.reports.reservations)
  else .deny .badLength 0

/-- The value checks of LINKCFG (R147, R178). -/
def linkcfgChecks (payload : List Byte) : List (Nat × Bool) :=
  [(1, decide (field payload 0 2 < 10) || decide (5000 < field payload 0 2)),
   (2, decide (field payload 2 1 < 1) || decide (15 < field payload 2 1)),
   (3, (LossPolicy.ofCode (field payload 3 1)).isNone)]

/-- LINKCFG (R147, R178). -/
def actLinkcfg (p : Part) (payload : List Byte) : Verdict :=
  if payload.length = 4 then
    match firstFailing (linkcfgChecks payload), LossPolicy.ofCode (field payload 3 1) with
    | some index, _ => .deny .badParam index
    | none, none => .deny .badParam 3
    | none, some policy =>
      .taken { p with reports := { p.reports with
          interval := field payload 0 2, retryLimit := field payload 2 1, policy := policy } }
        (beBytes 2 (field payload 0 2) ++ beBytes 1 (field payload 2 1) ++ beBytes 1 policy.code)
  else .deny .badLength 0

/-! ### The lines: LINECFG, DRIVE, SENSE (R35, R41, R42, R177) -/

/-- Sets one input line. -/
def Part.setInput (p : Part) (i : InId) (l : InputLine) : Part := { p with inputs := p.inputs.set i.val l i.isLt }

/-- LINECFG (R35, R177). A change under filtering keeps the filter time it captured. -/
def actLinecfg (p : Part) (payload : List Byte) : Verdict :=
  if payload.length = 2 then
    match inputOfNumber (field payload 0 1) with
    | none => .deny .badLine 1
    | some i =>
      if 63 < field payload 1 1 then .deny .badParam 2
      else .taken (p.setInput i { p.inputs[i] with filter := field payload 1 1 })
        (beBytes 1 (field payload 0 1) ++ beBytes 1 (field payload 1 1))
  else .deny .badLength 0

/-- The output line a number names; 0–7 only (R168). -/
def outputOfNumber (n : Nat) : Option OutId := if n < 8 then some (Fin.ofNat 8 n) else none

/-- DRIVE (R41, R177). -/
def actDrive (p : Part) (payload : List Byte) : Verdict :=
  if payload.length = 2 then
    match outputOfNumber (field payload 0 1), levelOfCode (field payload 1 1) with
    | none, _ => .deny .badLine 1
    | some _, none => .deny .badParam 2
    | some o, some level =>
      match p.outputs[o].owner with
      | some k => .deny .lineBusy (jobNumber k)
      | none => .taken (p.setOutput o { level := level, owner := none })
          (beBytes 1 o.val ++ beBytes 1 (levelCode level) ++ beBytes 1 0)
  else .deny .badLength 0

/-- The body of a SENSE reply (R42, R177). -/
def Part.senseBody (p : Part) : List Byte :=
  timeBytes p.time ++ beBytes 2 (packBits (p.inputs.toList.map (fun l => decide (l.filtered = .high)))) ++
    beBytes 2 (packBits (p.inputs.toList.map (fun l => l.change.isSome))) ++
    p.inputs.toList.flatMap (fun l => beBytes 1 l.filter) ++
    beBytes 1 (packBits (p.outputs.toList.map (fun l => decide (l.level = .high)))) ++
    p.outputs.toList.flatMap (fun l => beBytes 1 (ownerNumber l.owner))

/-- SENSE (R42, R177). -/
def actSense (p : Part) (payload : List Byte) : Verdict :=
  if payload.length = 0 then .taken p p.senseBody else .deny .badLength 0

/-! ### The Host Port: LINKSTAT and RESET (R161, R162, R179) -/

/-- The body of a LINKSTAT reply (R161, R179). -/
def Part.linkstatBody (p : Part) : List Byte :=
  let c := p.port.errors
  beBytes 2 c.noise ++ beBytes 2 c.badFrameLength ++ beBytes 2 c.gap ++ beBytes 2 c.crc ++ beBytes 2 c.breaks ++
    beBytes 2 c.overrun ++ beBytes 1 p.reports.link.code ++ beBytes 1 p.reports.retry ++ beBytes 1 p.occupancy ++
    beBytes 1 p.reports.reservations

/-- The six error counters become 0 (R158, R161). -/
def Part.clearErrors (p : Part) : Part := { p with port := { p.port with errors := ErrorCounters.zero } }

/-- LINKSTAT (R161, R179). -/
def actLinkstat (p : Part) (payload : List Byte) : Verdict :=
  if payload.length = 1 then
    match field payload 0 1 with
    | 0 => .taken p p.linkstatBody
    | 1 => .taken p.clearErrors p.linkstatBody
    | _ => .deny .badParam 1
  else .deny .badLength 0

/-- The receiver returns to a state with no frame under reception and no gap expiry. -/
def Part.setReceiver (p : Part) (st : RxState) : Part :=
  { p with port := { p.port with rxState := st, rxFrame := none, gapExpiry := none } }

/-- RESET: the reply, reset pending and the closing of the receiver (R162, R179). -/
def actReset (p : Part) (payload : List Byte) : Verdict :=
  if payload.length = 0 then
    .taken { p.setReceiver .closed with port := { (p.setReceiver .closed).port with resetPending := true } } []
  else .deny .badLength 0

/-! ### The meanings -/

/-- IDENT: intake of a frame of kind 0x01 (R159, R176). -/
def execIdent (s : State) : Host.Outcome State Fault Refusal := .next { s with toPart := s.toPart.command 0x01#8 actIdent }

/-- ACK: intake of a frame of kind 0x0B (R140, R159). -/
def execAck (s : State) : Host.Outcome State Fault Refusal := .next { s with toPart := s.toPart.command 0x0B#8 actAck }

/-- RECONNECT: intake of a frame of kind 0x0C (R146, R159). -/
def execReconnect (s : State) : Host.Outcome State Fault Refusal :=
  .next { s with toPart := s.toPart.command 0x0C#8 actReconnect }

/-- LINKCFG: intake of a frame of kind 0x0D (R147, R159). -/
def execLinkcfg (s : State) : Host.Outcome State Fault Refusal := .next { s with toPart := s.toPart.command 0x0D#8 actLinkcfg }

/-- LINECFG: intake of a frame of kind 0x0E (R35, R159). -/
def execLinecfg (s : State) : Host.Outcome State Fault Refusal := .next { s with toPart := s.toPart.command 0x0E#8 actLinecfg }

/-- DRIVE: intake of a frame of kind 0x0F (R41, R159). -/
def execDrive (s : State) : Host.Outcome State Fault Refusal := .next { s with toPart := s.toPart.command 0x0F#8 actDrive }

/-- SENSE: intake of a frame of kind 0x10 (R42, R159). -/
def execSense (s : State) : Host.Outcome State Fault Refusal := .next { s with toPart := s.toPart.command 0x10#8 actSense }

/-- TIME: intake of a frame of kind 0x11 (R31, R159). -/
def execTime (s : State) : Host.Outcome State Fault Refusal := .next { s with toPart := s.toPart.command 0x11#8 actTime }

/-- LINKSTAT: intake of a frame of kind 0x12 (R161, R159). -/
def execLinkstat (s : State) : Host.Outcome State Fault Refusal :=
  .next { s with toPart := s.toPart.command 0x12#8 actLinkstat }

/-- RESET: intake of a frame of kind 0x13 (R162, R159). -/
def execReset (s : State) : Host.Outcome State Fault Refusal := .next { s with toPart := s.toPart.command 0x13#8 actReset }

/-- UNKNOWN_KIND: intake of a frame of a kind that is not a command, answered with kind 0x80 (R159, R166). -/
def execUnknownKind (s : State) : Host.Outcome State Fault Refusal :=
  .next { s with toPart := s.toPart.intake (fun k => !isCommandKind k) (fun _ => 0x80#8) (fun _ _ => .deny .unknownKind 0) }

end Sys2Proof.Machine
end

