-- ==== Sys2Proof/Machine/Inputs.lean ====
section
/-! DEFINITION. The Input Line Unit and the edges: samples and filtering (R33), acceptance (R34), and the delivery of an edge to
a job, which acts on it by its state and kind (R11, R21, R36, R48–R53, R63–R69, R112, R113). -/

namespace Sys2Proof.Machine

open Sys2Proof

/-! ### Samples and acceptance (R33, R34) -/

/-- The jobs that watch a line now (R36). -/
def Part.watchers (p : Part) (i : InId) : List JobId := (List.finRange 32).filter (fun j => p.jobs[j].watches i)

/-- The edge that the acceptance of a change forms (R34). -/
def acceptedEdge (i : InId) (c : LineChange) : Edge :=
  { line := i, polarity := polarityTo c.level, edgeTime := c.firstSeen, acceptance := plus c.firstSeen c.filterTime }

/-- Acceptance of a change: the filtered level becomes the new level, the change becomes absent, and the edge goes out to each
job that watches the line (R34, R36). -/
def Part.acceptChange (p : Part) (i : InId) (c : LineChange) : Part :=
  let q := p.setInput i { p.inputs[i] with filtered := c.level, change := none }
  { q with deliveries := q.deliveries ++ (q.watchers i).map (fun j =>
    { job := j, edge := acceptedEdge i c, acceptedIn := q.jobs[j].state }) }

/-- Acceptance of the change on a line, when it is due (R33). -/
def Part.acceptDue (p : Part) (i : InId) : Part :=
  match p.inputs[i].change with
  | none => p
  | some c => if acceptanceDue p.time p.inputs[i] then p.acceptChange i c else p

/-- The change that a sample at `level` starts (R33). -/
def startedChange (level : Level) (now : Time) (filter : Nat) : LineChange :=
  { level := level, firstSeen := now, filterTime := filter }

/-- A sample compared with the filtered level: at that level it drops a change under filtering, at the other level it starts
one when there is none; with filter setting 0 the change is accepted at once (R33). -/
def Part.compareSample (p : Part) (i : InId) (level : Level) : Part :=
  if level = p.inputs[i].filtered then p.setInput i { p.inputs[i] with change := none }
  else
    match p.inputs[i].change with
    | some _ => p
    | none =>
      if p.inputs[i].filter = 0 then p.acceptChange i (startedChange level p.time 0)
      else p.setInput i { p.inputs[i] with change := some (startedChange level p.time p.inputs[i].filter) }

/-- One sample of a line: a change whose time has come is accepted before the sample is compared (R33). -/
def Part.sampleLine (p : Part) (i : InId) (level : Level) : Part := (p.acceptDue i).compareSample i level

/-! ### COUNT (R48–R53) -/

/-- A COUNT job counts a selected edge that has passed the gate (R50–R53). -/
def Part.countEdge (p : Part) (j : JobId) (c : CountParams) (e : Edge) : Part :=
  if p.countOf j = c.width.largest then p.endJob j .overflow e.edgeTime 0
  else
    let q := p.countUp j
    if c.limit ≠ 0 ∧ q.countOf j = c.limit then q.endJob j .limitReached e.edgeTime 0
    else if c.step ≠ 0 ∧ q.countOf j % c.step = 0 then q.offer j e.edgeTime (.progress (q.countOf j))
    else q

/-- Whether a COUNT job may count an edge that was accepted while it was in a state: not one accepted in ARMED or HELD (R48). -/
def JobState.countsEdges : JobState → Bool
  | .armed => false
  | .held => false
  | .running => true
  | .stopping => true
  | .free => true
  | .defined => true
  | .ended => true

/-- An edge of the source line of a RUNNING COUNT job: one accepted while the job was ARMED or HELD is not counted later; else
polarity, gate, count (R48, R49). DEDUCED, log entry 33: such an edge passes without any effect also where a link, a RESUME or
the delivery of the arming edge has made the job RUNNING, in the same microsecond, by the time it takes the delivery; R11 and
R47 read alone would count the edge that follows the arming edge. DEDUCED, log entry 37: the gate is read
when the delivery is taken, by R37 and R49; R21 has it read when the edge is accepted. -/
def Part.takeCountEdge (p : Part) (j : JobId) (c : CountParams) (g : CountProgress) (acceptedIn : JobState) (e : Edge) :
    Part :=
  if acceptedIn.countsEdges && c.edge.takes e.polarity then
    if p.gateOpen c then p.countEdge j c e
    else p.setWork j (.count c { g with blocked := satSucc max32 g.blocked })
  else p

/-! ### MEASURE (R63–R69) -/

/-- The sample that an edge forms when it closes an interval (R65). -/
def OpenInterval.sample (i : OpenInterval) (edgeTime : Time) : Nat := i.elapsed edgeTime

/-- Whether an accepted sample raises a SAMPLE report (R67). -/
def MeasureProgress.reportsNext (g : MeasureProgress) (m : MeasureParams) : Bool :=
  decide (m.reportInterval ≠ 0) && decide (m.reportInterval ≤ g.sinceReport + 1)

/-- The statistics after an accepted sample (R66, R67). -/
def MeasureProgress.accept (g : MeasureProgress) (m : MeasureParams) (sample : Nat) : MeasureProgress :=
  { g with
    accepted := satSucc max32 g.accepted
    last := some sample
    minimum := match g.minimum with
      | none => some sample
      | some x => some (min x sample)
    maximum := match g.maximum with
      | none => some sample
      | some x => some (max x sample)
    sinceReport := if m.reportInterval = 0 then g.sinceReport else if g.reportsNext m then 0 else g.sinceReport + 1 }

/-- An accepted sample enters the statistics and, when R67 says so, is offered as a SAMPLE report. -/
def Part.acceptSample (p : Part) (j : JobId) (m : MeasureParams) (g : MeasureProgress) (sample : Nat) (time : Time) : Part :=
  let q := p.setWork j (.measure m (g.accept m sample))
  if g.reportsNext m then q.offer j time (.sample sample (g.accept m sample).accepted) else q

/-- What the limits say of a sample: absent when it is accepted (R66). -/
def MeasureParams.breach (m : MeasureParams) (sample : Nat) : Option EndCause :=
  if m.highLimit ≠ 0 ∧ m.highLimit < sample then some .highExceeded
  else if m.lowLimit ≠ 0 ∧ sample < m.lowLimit then some .lowExceeded
  else none

/-- Opens an interval at an edge and places the stall deadline when stall is enabled; in PERIOD mode with stall the edge
time becomes the stall reference (R62–R64, R70). -/
def Part.openInterval (p : Part) (j : JobId) (m : MeasureParams) (g : MeasureProgress) (t : Time) : Part :=
  let q := p.setWork j (.measure m { g with
    interval := some { openedAt := t, aged := false }
    stallRef := if m.stall ∧ m.mode = .period then some t else g.stallRef })
  if m.stall then q.place j .stall (stallDue t m.highLimit) else q

/-- A rising edge of a PERIOD job (R63). -/
def Part.periodEdge (p : Part) (j : JobId) (m : MeasureParams) (g : MeasureProgress) (t : Time) : Part :=
  match g.interval with
  | none => p.openInterval j m g t
  | some i =>
    match m.breach (i.sample t) with
    | some cause => p.endJob j cause t (i.sample t)
    | none => (p.acceptSample j m g (i.sample t) t).openInterval j m (g.accept m (i.sample t)) t

/-- A closing edge of a HIGH or LOW job (R64). -/
def Part.closingEdge (p : Part) (j : JobId) (m : MeasureParams) (g : MeasureProgress) (t : Time) : Part :=
  match g.interval with
  | none => p
  | some i =>
    match m.breach (i.sample t) with
    | some cause => (p.unschedule j).endJob j cause t (i.sample t)
    | none => (p.unschedule j).acceptSample j m { g with interval := none } (i.sample t) t

/-- An opening edge of a HIGH or LOW job; one that finds an interval open does not occur, since edges on a line alternate, and
changes nothing (R64). -/
def Part.openingEdge (p : Part) (j : JobId) (m : MeasureParams) (g : MeasureProgress) (t : Time) : Part :=
  match g.interval with
  | none => p.openInterval j m g t
  | some _ => p

/-- An edge in the window of a RATE job (R68, R69). -/
def Part.windowEdge (p : Part) (j : JobId) (sel : EdgeSelect) (e : Edge) : Part :=
  if sel.takes e.polarity then
    if p.countOf j = 65535 then p.endJob j .overflow e.edgeTime 0 else p.countUp j
  else p

/-- An edge of the source line of a RUNNING MEASURE job (R63, R64, R68). -/
def Part.takeMeasureEdge (p : Part) (j : JobId) (m : MeasureParams) (g : MeasureProgress) (e : Edge) : Part :=
  match m.mode, e.polarity with
  | .period, .rising => p.periodEdge j m g e.edgeTime
  | .period, .falling => p
  | .high, .rising => p.openingEdge j m g e.edgeTime
  | .high, .falling => p.closingEdge j m g e.edgeTime
  | .low, .falling => p.openingEdge j m g e.edgeTime
  | .low, .rising => p.closingEdge j m g e.edgeTime
  | .rate sel _, _ => p.windowEdge j sel e

/-! ### ECHO (R112, R113) -/

/-- The end of the pulse before a new entry: the last entry's, else that of the pulse in progress (R112, third term). -/
def EchoProgress.previousEnd (g : EchoProgress) : Option Time :=
  match g.pendingList.getLast? with
  | some x => some (plus x.due x.width)
  | none => g.pulse.map (fun u => u.endTime)

/-- The later of the first two terms of R112: edge time plus delay, and acceptance time. -/
def EchoParams.ownDue (e : EchoParams) (x : Edge) : Time := laterOf (plus x.edgeTime e.delay) x.acceptance

/-- The due time of a taken edge (R112). -/
def echoDueTime (e : EchoParams) (g : EchoProgress) (x : Edge) : Time :=
  match g.previousEnd with
  | none => e.ownDue x
  | some t => laterOf (e.ownDue x) t

/-- Whether the due time has been moved later to clear the pulse before (R112). -/
def echoSlips (e : EchoParams) (g : EchoProgress) (x : Edge) : Bool :=
  match g.previousEnd with
  | none => false
  | some t => earlier (e.ownDue x) t

/-- A taken edge joins the list; one that joins an empty list becomes the head and places the ECHO_DUE entry (R112). -/
def Part.joinEcho (p : Part) (j : JobId) (e : EchoParams) (g : EchoProgress) (x : Edge) : Part :=
  let q := p.setWork j (.echo e { g with
    pendingList := g.pendingList ++ [{ due := echoDueTime e g x, width := e.width }]
    slipped := if echoSlips e g x then satAdd32 g.slipped 1 else g.slipped })
  if g.pendingList.isEmpty then q.place j .echoDue (echoDueTime e g x) else q

/-- An edge is turned away (R113). -/
def Part.missEcho (p : Part) (j : JobId) (e : EchoParams) (g : EchoProgress) : Part :=
  p.setWork j (.echo e { g with missed := satAdd32 g.missed 1 })

/-- A selected edge meets the overlap policy (R113). DEDUCED, log entry 35: with QUEUE and 8 entries pending an edge that is taken
before the ECHO_DUE delivery or the pulse end of the same microsecond is turned away, by R113; R121 has its entry join in either
order. -/
def Part.overlapEcho (p : Part) (j : JobId) (e : EchoParams) (g : EchoProgress) (x : Edge) : Part :=
  match e.overlap with
  | .queue => if g.pendingList.length < 8 then p.joinEcho j e g x else p.missEcho j e g
  | .replace =>
    if g.pendingList.isEmpty then p.joinEcho j e g x
    else (p.unschedule j).joinEcho j e { g with pendingList := [], missed := satAdd32 g.missed 1 } x
  | .ignore => if g.pendingList.isEmpty && g.pulse.isNone then p.joinEcho j e g x else p.missEcho j e g

/-- An edge of the source line of a RUNNING ECHO job (R112). -/
def Part.takeEchoEdge (p : Part) (j : JobId) (e : EchoParams) (g : EchoProgress) (x : Edge) : Part :=
  if x.polarity = e.edge then p.overlapEcho j e g x else p

/-! ### The delivery of an edge (R11, R21, R36) -/

/-- An edge of its source line reaches a RUNNING job (R21). -/
def Part.sourceEdge (p : Part) (j : JobId) (w : Work) (acceptedIn : JobState) (e : Edge) : Part :=
  match w with
  | .count c g => p.takeCountEdge j c g acceptedIn e
  | .measure m g => p.takeMeasureEdge j m g e
  | .echo x g => p.takeEchoEdge j x g e
  | .delay _ _ => p
  | .tick _ _ => p
  | .wave _ _ => p

/-- A job takes the delivery of an edge: the arming edge moves an ARMED ON_EDGE job into RUNNING with the acceptance time as
RUNNING entry time and is consumed; a RUNNING job's kind acts on an edge of its source line; otherwise the delivery has
no effect (R11, R21, R36). `acceptedIn` is the state the job was in when the edge was accepted (R48). -/
def Part.takeEdge (p : Part) (j : JobId) (acceptedIn : JobState) (e : Edge) : Part :=
  match p.jobs[j].defn with
  | none => p
  | some d =>
    match p.jobs[j].state with
    | .armed =>
      match d.startMode with
      | .onEdge line polarity => if line = e.line ∧ polarity = e.polarity then p.enterRunning j e.acceptance else p
      | .immediate => p
      | .onLink => p
    | .running => if d.work.source = some e.line then p.sourceEdge j d.work acceptedIn e else p
    | .held => p
    | .stopping => p
    | .free => p
    | .defined => p
    | .ended => p

/-- The oldest outstanding delivery to a job. -/
def Part.deliveryTo (p : Part) (j : JobId) : Option Delivery := p.deliveries.find? (fun d => decide (d.job = j))

/-- The oldest outstanding delivery to a job is taken off the list. -/
def Part.removeDelivery (p : Part) (d : Delivery) : Part := { p with deliveries := p.deliveries.erase d }

/-- The delivery step of a job: no effect with no delivery outstanding (R36). -/
def Part.deliverTo (p : Part) (j : JobId) : Part :=
  match p.deliveryTo j with
  | none => p
  | some d => ((p.removeDelivery d).takeEdge j d.acceptedIn d.edge).arbitrate

/-! ### The meanings -/

/-- CHANGE_UNDER_FILTERING: a sample of an input line. The lines are not sampled while a reset holds the part or REFCLK is
stopped (R30, R33, R44). -/
def execChangeUnderFiltering (line : Nat) (level : Level) (s : State) : Host.Outcome State Fault Refusal :=
  match inputOfNumber line with
  | none => .refused .noSuchLine
  | some i => .next { s with toPart := if s.toPart.clocked then s.toPart.sampleLine i level else s.toPart }

/-- EDGE_ACCEPTANCE: the change under filtering on a line is accepted when its time has come (R33, R34). -/
def execEdgeAcceptance (line : Nat) (s : State) : Host.Outcome State Fault Refusal :=
  match inputOfNumber line with
  | none => .refused .noSuchLine
  | some i => .next { s with toPart := if s.toPart.clocked then s.toPart.acceptDue i else s.toPart }

/-- EDGE_DELIVERY: a job takes the oldest delivery outstanding to it (R36). -/
def execEdgeDelivery (job : Nat) (s : State) : Host.Outcome State Fault Refusal :=
  match jobOfNumber job with
  | none => .refused .noSuchJob
  | some j => .next { s with toPart := s.toPart.deliverTo j }

end Sys2Proof.Machine
end

