-- ==== Sys2Proof/Machine/Deadlines.lean ====
section
/-! DEFINITION. Deadline deliveries and cell events: EXPIRY (R87), TICK (R92–R94, R97), STALL (R71), WINDOW_END (R68), ECHO_DUE
(R114), and the phase events of WAVE and ECHO jobs with the turns of long phases (R100, R102, R103, R115). -/

namespace Sys2Proof.Machine

open Sys2Proof

/-- The delivery of the head entry of the schedule when it is due and has the given purpose; no effect otherwise (R83). -/
def Part.deliverDue (p : Part) (purpose : Purpose) (act : Part → JobId → Time → Part) : Part :=
  match p.dueFor purpose with
  | none => p
  | some e => (act p.popEntry e.job e.due).arbitrate

/-! ### DELAY and TICK -/

/-- An EXPIRY entry reaches its job: EXPIRED at the due time (R87). -/
def Part.takeExpiry (p : Part) (j : JobId) (due : Time) : Part :=
  if p.jobs[j].state.working then p.endJob j .expired due 0 else p

/-- The tick after one due at `due`: the period becomes a staged period when there is one, and the next entry is placed
(R92 step 4). -/
def Part.nextTick (p : Part) (j : JobId) (k : TickParams) (g : TickProgress) (due : Time) : Part :=
  match p.jobs[j].staged with
  | some (.period period) =>
    ((p.setWork j (.tick { k with period := period } g)).setStaged j none).place j .tick (plus due period)
  | some (.pair _ _) => p.place j .tick (plus due k.period)
  | none => p.place j .tick (plus due k.period)

/-- Ticks done after one more tick (R91: wrapping). -/
def TickProgress.ticked (g : TickProgress) : TickProgress := { g with ticksDone := g.ticksDone + 1#32 }

/-- A TICK entry reaches a RUNNING job (R92, R94). -/
def Part.runningTick (p : Part) (j : JobId) (k : TickParams) (g : TickProgress) (due : Time) : Part :=
  let q := p.setWork j (.tick k g.ticked)
  if k.limit ≠ 0 ∧ g.ticked.ticksDone.toNat = k.limit then q.endJob j .limitReached due 0
  else (q.offerTick j g.ticked.ticksDone due).nextTick j k g.ticked due

/-- A TICK entry reaches its job; in STOPPING it ends the job, that tick counted (R92, R97). -/
def Part.takeTick (p : Part) (j : JobId) (due : Time) : Part :=
  match p.jobs[j].state, p.workOf j with
  | .running, some (.tick k g) => p.runningTick j k g due
  | .stopping, some (.tick k g) => (p.setWork j (.tick k g.ticked)).endJob j .hostStop due 0
  | _, _ => p

/-! ### MEASURE -/

/-- A STALL entry reaches its job: STALL at the due time (R71). -/
def Part.takeStall (p : Part) (j : JobId) (due : Time) : Part :=
  if p.jobs[j].state.working then p.endJob j .stall due 0 else p

/-- A window ends at `due` with the sample `sample`: checked, and when accepted the next window starts at `due` (R66, R68). -/
def Part.closeWindow (p : Part) (j : JobId) (m : MeasureParams) (g : MeasureProgress) (sample : Nat) (due : Time) : Part :=
  match m.breach sample with
  | some cause => p.endJob j cause due sample
  | none => (p.acceptSample j m g sample due).beginMeasure j m (g.accept m sample) due

/-- A WINDOW entry reaches its job (R68). -/
def Part.takeWindow (p : Part) (j : JobId) (due : Time) : Part :=
  match p.jobs[j].state, p.workOf j with
  | .running, some (.measure m g) => p.closeWindow j m g (p.countOf j) due
  | _, _ => p

/-! ### ECHO (R114, R115) -/

/-- The head of the list leaves it and its pulse begins at `t`; a new head gets its ECHO_DUE entry (R114 steps 2 and 3). -/
def Part.beginPulse (p : Part) (j : JobId) (e : EchoParams) (g : EchoProgress) (t : Time) : Part :=
  match g.pendingList with
  | [] => p
  | head :: rest =>
    let q := ((p.setWork j (.echo e { g with
      pendingList := rest, pulse := some { beginTime := t, endTime := plus t head.width } })).driveActive j).setPhase j
        (some { start := t, length := head.width })
    match rest with
    | [] => q
    | next :: _ => q.place j .echoDue next.due

/-- A pulse has ended: it is counted and no pulse is in progress (R115 step 1). -/
def EchoProgress.counted (g : EchoProgress) : EchoProgress := { g with pulses := g.pulses + 1#32, pulse := none }

/-- The pulse just counted reaches a nonzero limit (R115 step 2). -/
def EchoProgress.atLimit (g : EchoProgress) (e : EchoParams) : Bool :=
  decide (e.limit ≠ 0) && decide (g.pulses.toNat = e.limit)

/-- The cause of an ending at a pulse that reaches the limit (R115 step 2). -/
def limitCause (state : JobState) : EndCause := if state = .stopping then .hostStop else .limitReached

/-- An ECHO_DUE entry reaches its job with due time `due`: a pulse still in progress is completed first, then the head's pulse
begins (R114). -/
def Part.echoDueAt (p : Part) (j : JobId) (e : EchoParams) (g : EchoProgress) (due : Time) : Part :=
  match g.pulse with
  | none => p.beginPulse j e g due
  | some _ =>
    if g.counted.atLimit e then
      (p.setWork j (.echo e g.counted)).endJob j (limitCause p.jobs[j].state) due 0
    else p.beginPulse j e g.counted due

/-- An ECHO_DUE entry reaches its job (R114). -/
def Part.takeEchoDue (p : Part) (j : JobId) (due : Time) : Part :=
  match p.jobs[j].state, p.workOf j with
  | .running, some (.echo e g) => p.echoDueAt j e g due
  | .stopping, some (.echo e g) => p.echoDueAt j e g due
  | _, _ => p

/-- A pulse ends at `t` (R115). -/
def Part.endPulse (p : Part) (j : JobId) (e : EchoParams) (g : EchoProgress) (t : Time) : Part :=
  let q := (p.setWork j (.echo e g.counted)).setPhase j none
  if g.counted.atLimit e then q.endJob j (limitCause p.jobs[j].state) t 0
  else
    match g.pendingList with
    | [] => if p.jobs[j].state = .stopping then q.endJob j .hostStop t 0 else q.driveIdle j
    | head :: _ => if head.due = t then (q.unschedule j).beginPulse j e g.counted t else q.driveIdle j

/-! ### Cell events (R25, R100) -/

/-- The cell phase of a job whose end has come, no whole turn being left (R100). -/
def Part.phaseDue (p : Part) (j : JobId) (turnsLeft : Nat) : Option CellPhase :=
  match p.phaseOf j with
  | none => none
  | some ph =>
    if p.jobs[j].state.working && p.clocked && decide (turnsLeft = 0) && reached p.time ph.endTime then some ph else none

/-- The WAVE job whose cell ends the given phase now: parameters, progress and the time of the event (R102). -/
def Part.wavePhaseDue (p : Part) (j : JobId) (phase : WavePhase) : Option (WaveParams × WaveProgress × Time) :=
  match p.workOf j with
  | some (.wave w g) =>
    if g.phase = some phase then (p.phaseDue j g.turnsLeft).map (fun ph => (w, g, ph.endTime)) else none
  | some (.count _ _) => none
  | some (.measure _ _) => none
  | some (.delay _ _) => none
  | some (.tick _ _) => none
  | some (.echo _ _) => none
  | none => none

/-- The ECHO job whose cell ends its pulse now: parameters, progress and the time of the event (R115). -/
def Part.pulseDue (p : Part) (j : JobId) : Option (EchoParams × EchoProgress × Time) :=
  match p.workOf j with
  | some (.echo e g) => if g.pulse.isSome then (p.phaseDue j 0).map (fun ph => (e, g, ph.endTime)) else none
  | some (.count _ _) => none
  | some (.measure _ _) => none
  | some (.delay _ _) => none
  | some (.tick _ _) => none
  | some (.wave _ _) => none
  | none => none

/-- The WAVE job whose cell ends a turn now, with a whole turn left above 0 (R100). -/
def Part.turnDue (p : Part) (j : JobId) : Option (WaveParams × WaveProgress) :=
  match p.workOf j, p.phaseOf j with
  | some (.wave w g), some ph =>
    if p.jobs[j].state.working && p.clocked && decide (0 < g.turnsLeft) && reached p.time (ph.turnEnd g.turnsLeft)
    then some (w, g) else none
  | _, _ => none

/-- The active phase of a WAVE job ends at `t`: the line goes idle and the idle phase begins (R102). -/
def Part.endActivePhase (p : Part) (j : JobId) (w : WaveParams) (g : WaveProgress) (t : Time) : Part :=
  ((p.setWork j (.wave w { g with phase := some .idle, turnsLeft := turnsOf (w.period - w.width) })).driveIdle j).setPhase j
    (some { start := t, length := w.period - w.width })

/-- A period has ended: its pulse is counted and no period is in progress (R103 step 1). -/
def WaveProgress.counted (g : WaveProgress) : WaveProgress :=
  { g with pulses := g.pulses + 1#32, phase := none, periodStart := none, turnsLeft := 0 }

/-- A period of a WAVE job ends at `t`: counted, then the boundary of STOPPING, the limit, or the next period with any staged
pair (R103). -/
def Part.endPeriod (p : Part) (j : JobId) (w : WaveParams) (g : WaveProgress) (t : Time) : Part :=
  let q := p.setWork j (.wave w g.counted)
  if p.jobs[j].state = .stopping then q.endJob j .hostStop t 0
  else if w.limit ≠ 0 ∧ g.counted.pulses.toNat = w.limit then q.endJob j .limitReached t 0
  else (q.setStaged j none).beginPeriod j (w.applyStaged p.jobs[j].staged) g.counted t

/-- The step of ACTIVE_PHASE_EVENT on a job; no effect when its cell ends no active phase. -/
def Part.activePhaseStep (p : Part) (j : JobId) : Part :=
  match p.wavePhaseDue j .active with
  | none => p
  | some (w, g, t) => p.endActivePhase j w g t

/-- The step of PERIOD_END on a job; no effect when its cell ends no idle phase. -/
def Part.periodStep (p : Part) (j : JobId) : Part :=
  match p.wavePhaseDue j .idle with
  | none => p
  | some (w, g, t) => (p.endPeriod j w g t).arbitrate

/-- The step of PULSE_END on a job; no effect when its cell ends no pulse. -/
def Part.pulseStep (p : Part) (j : JobId) : Part :=
  match p.pulseDue j with
  | none => p
  | some (e, g, t) => (p.endPulse j e g t).arbitrate

/-- The step of TURN_END on a job: the turns left are lowered by 1 and nothing is delivered (R100). -/
def Part.turnStep (p : Part) (j : JobId) : Part :=
  match p.turnDue j with
  | none => p
  | some (w, g) => p.setWork j (.wave w { g with turnsLeft := g.turnsLeft - 1 })

/-! ### The meanings -/

/-- EXPIRY (R87). -/
def execExpiry (s : State) : Host.Outcome State Fault Refusal :=
  .next { s with toPart := s.toPart.deliverDue .expiry Part.takeExpiry }

/-- TICK (R92). -/
def execTick (s : State) : Host.Outcome State Fault Refusal :=
  .next { s with toPart := s.toPart.deliverDue .tick Part.takeTick }

/-- STALL (R71). -/
def execStall (s : State) : Host.Outcome State Fault Refusal :=
  .next { s with toPart := s.toPart.deliverDue .stall Part.takeStall }

/-- WINDOW_END (R68). -/
def execWindowEnd (s : State) : Host.Outcome State Fault Refusal :=
  .next { s with toPart := s.toPart.deliverDue .window Part.takeWindow }

/-- ECHO_DUE (R114). -/
def execEchoDue (s : State) : Host.Outcome State Fault Refusal :=
  .next { s with toPart := s.toPart.deliverDue .echoDue Part.takeEchoDue }

/-- ACTIVE_PHASE_EVENT (R102). -/
def execActivePhaseEvent (job : Nat) (s : State) : Host.Outcome State Fault Refusal :=
  match jobOfNumber job with
  | none => .refused .noSuchJob
  | some j => .next { s with toPart := s.toPart.activePhaseStep j }

/-- PERIOD_END (R103). -/
def execPeriodEnd (job : Nat) (s : State) : Host.Outcome State Fault Refusal :=
  match jobOfNumber job with
  | none => .refused .noSuchJob
  | some j => .next { s with toPart := s.toPart.periodStep j }

/-- PULSE_END (R115). -/
def execPulseEnd (job : Nat) (s : State) : Host.Outcome State Fault Refusal :=
  match jobOfNumber job with
  | none => .refused .noSuchJob
  | some j => .next { s with toPart := s.toPart.pulseStep j }

/-- TURN_END (R100). -/
def execTurnEnd (job : Nat) (s : State) : Host.Outcome State Fault Refusal :=
  match jobOfNumber job with
  | none => .refused .noSuchJob
  | some j => .next { s with toPart := s.toPart.turnStep j }

end Sys2Proof.Machine
end

