-- ==== Sys2Proof/Machine/Link.lean ====
section
/-! DEFINITION. The retransmit timer, the entry to LOST and the application of the loss policy to the jobs (R142–R145). -/

namespace Sys2Proof.Machine

open Sys2Proof

/-- The applications of the loss policy in force, one to every job (R145). -/
def lossDeliveriesOf (policy : LossPolicy) (lostAt : Time) : List LossDelivery :=
  (List.finRange 32).map (fun j => { job := j, policy := policy, lostAt := lostAt })

/-- The retransmit timer expires at its expiry time `t`: the entries go to RESEND while the retry count is at or below the
limit; above it the link becomes LOST (R143, R144, R145). -/
def Reporter.expire (r : Reporter) (t : Time) : Reporter :=
  if r.retry + 1 ≤ r.retryLimit then { r with retry := r.retry + 1, queue := resendAll r.queue, timer := none }
  else { r with retry := r.retry + 1, link := .lost, timer := none,
                lossDeliveries := r.lossDeliveries ++ lossDeliveriesOf r.policy t }

/-- The step of RETRANSMIT_TIMER_EXPIRY; no effect when the timer is stopped or has not reached its expiry time. -/
def Part.timerStep (p : Part) : Part :=
  if p.timerDue then
    match p.reports.timer with
    | none => p
    | some t => ({ p with reports := p.reports.expire t } : Part).arbitrate
  else p

/-- The loss policy acts on one job by its state (R145). DEDUCED, log entry 13: that is its state when the application is taken, by
R129 and R145, also where a link or a command of the same microsecond has started or resumed the job since the entry to LOST;
R145 also has a job that is started or resumed in LOST run unaffected. -/
def Part.applyPolicy (p : Part) (j : JobId) (policy : LossPolicy) (lostAt : Time) : Part :=
  match policy, p.jobs[j].state with
  | .carryOn, _ => p
  | .holdAll, .armed => p.endJob j .linkLost lostAt 0
  | .holdAll, .running => p.holdJob j
  | .holdAll, .stopping => p.endJob j .linkLost lostAt 0
  | .holdAll, .held => p
  | .holdAll, .free => p
  | .holdAll, .defined => p
  | .holdAll, .ended => p
  | .stopAll, .armed => p.endJob j .linkLost lostAt 0
  | .stopAll, .running => p.endJob j .linkLost lostAt 0
  | .stopAll, .held => p.endJob j .linkLost lostAt 0
  | .stopAll, .stopping => p.endJob j .linkLost lostAt 0
  | .stopAll, .free => p
  | .stopAll, .defined => p
  | .stopAll, .ended => p

/-- The oldest application of the loss policy that a job has not taken. -/
def Part.lossDeliveryTo (p : Part) (j : JobId) : Option LossDelivery :=
  p.reports.lossDeliveries.find? (fun d => decide (d.job = j))

/-- An application of the loss policy is taken off the list. -/
def Part.removeLossDelivery (p : Part) (d : LossDelivery) : Part :=
  { p with reports := { p.reports with lossDeliveries := p.reports.lossDeliveries.erase d } }

/-- The step of LOSS_POLICY on a job; no effect when none is outstanding to it (R145). -/
def Part.lossStep (p : Part) (j : JobId) : Part :=
  match p.lossDeliveryTo j with
  | none => p
  | some d => ((p.removeLossDelivery d).applyPolicy j d.policy d.lostAt).arbitrate

/-- RETRANSMIT_TIMER_EXPIRY (R143). -/
def execRetransmitTimerExpiry (s : State) : Host.Outcome State Fault Refusal := .next { s with toPart := s.toPart.timerStep }

/-- LOSS_POLICY (R145). -/
def execLossPolicy (job : Nat) (s : State) : Host.Outcome State Fault Refusal :=
  match jobOfNumber job with
  | none => .refused .noSuchJob
  | some j => .next { s with toPart := s.toPart.lossStep j }

end Sys2Proof.Machine
end

