-- ==== Sys2Proof/Machine/HostPort.lean ====
section
/-! DEFINITION. The receiver and the transmitter of the Host Port: bytes, the gap expiry, breaks, and the end of a frame in
transmission (R151–R160). -/

namespace Sys2Proof.Machine

open Sys2Proof

/-! ### The receiver (R154–R158) -/

/-- The time a frame survives between the byte times of two of its bytes (R154, R155). -/
def gapMicros : Nat := 5000

/-- Takes a byte of a frame: the receiver state, the frame under reception and the gap expiry that follow it (R154). -/
def Part.takeByte (p : Part) (st : RxState) (f : RxFrame) : Part :=
  { p with port := { p.port with rxState := st, rxFrame := some f, gapExpiry := some (plus p.time gapMicros) } }

/-- Replaces the error counters. -/
def Part.setErrors (p : Part) (e : ErrorCounters) : Part := { p with port := { p.port with errors := e } }

/-- The frame under reception with one more byte. -/
def RxFrame.push (f : RxFrame) (b : Byte) : RxFrame := { taken := f.taken ++ [b], expected := f.expected - 1 }

/-- The bytes of a complete frame that its CRC covers: all but the sync byte and the two CRC bytes (R153). -/
def coveredOf (bytes : List Byte) : List Byte := (bytes.drop 1).take (bytes.length - 3)

/-- The CRC a complete frame carries, high byte first (R152). -/
def carriedCrc (bytes : List Byte) : BitVec 16 := BitVec.ofNat 16 (beNat (bytes.drop (bytes.length - 2)))

/-- The frame that complete bytes spell (R152). -/
def frameOf (bytes : List Byte) : Frame :=
  { kind := (coveredOf bytes).getD 1 0#8, tag := (coveredOf bytes).getD 2 0#8, payload := (coveredOf bytes).drop 3 }

/-- A complete frame is settled: CRC mismatch, buffer full, or accepted (R157). -/
def Part.settleFrame (p : Part) (bytes : List Byte) : Part :=
  if crc (coveredOf bytes) ≠ carriedCrc bytes then
    p.setErrors { p.port.errors with crc := satSucc 65535 p.port.errors.crc }
  else if 2 ≤ p.port.rxBuffer.length then
    p.setErrors { p.port.errors with overrun := satSucc 65535 p.port.errors.overrun }
  else { p with port := { p.port with rxBuffer := p.port.rxBuffer ++ [frameOf bytes] } }

/-- The frame under reception; an absent one has no bytes. -/
def Port.underReception (q : Port) : RxFrame := q.rxFrame.getD { taken := [], expected := 0 }

/-- The receiver acts on a byte by its state (R154). -/
def Part.receiveByte (p : Part) (b : Byte) : Part :=
  match p.port.rxState with
  | .hunt =>
    if b = syncByte then p.takeByte .length { taken := [b], expected := 0 }
    else p.setErrors { p.port.errors with noise := satSucc 65535 p.port.errors.noise }
  | .length =>
    if 2 ≤ b.toNat ∧ b.toNat ≤ 200 then p.takeByte .body { taken := p.port.underReception.taken ++ [b], expected := b.toNat }
    else (p.setReceiver .hunt).setErrors { p.port.errors with badFrameLength := satSucc 65535 p.port.errors.badFrameLength }
  | .body =>
    if p.port.underReception.expected ≤ 1 then
      p.takeByte .check { taken := p.port.underReception.taken ++ [b], expected := 2 }
    else p.takeByte .body (p.port.underReception.push b)
  | .check =>
    if p.port.underReception.expected ≤ 1 then
      (p.setReceiver .hunt).settleFrame (p.port.underReception.taken ++ [b])
    else p.takeByte .check (p.port.underReception.push b)
  | .closed => p

/-- Whether the receiver takes a character whose stop bit is sampled now, RXD having been high for `high` periods of REFCLK
before its start bit: REFCLK runs and no reset holds the part, no break lasts, and, where the receiver waits after a reset or a
break, the character began after it and RXD had been high for one character time (R30, R44, R151, R156). -/
def Part.takesCharacter (p : Part) (high : Nat) : Bool :=
  p.clocked && !p.port.inBreak && (!p.port.rxAwaitsHigh || highForCharacter p.port.baud high) &&
    match p.port.rxReadyAt with
    | none => true
    | some t => reached p.time t

/-- A start bit has been taken: the wait for RXD high is over (R151). -/
def Part.endHighWait (p : Part) : Part := { p with port := { p.port with rxAwaitsHigh := false, rxReadyAt := none } }

/-- The receiver waits for RXD high, and no byte can have a byte time before `readyAt` (R151). -/
def Part.awaitHigh (p : Part) (readyAt : Time) : Part :=
  { p with port := { p.port with rxAwaitsHigh := true, rxReadyAt := some readyAt } }

/-- The step of BYTE_RECEIVED. A character whose stop bit is low is discarded, counted nowhere and moves no gap expiry; the
next falling edge after it is a start bit at once, as after any character that is taken (R151). A character that the receiver
does not take, or that CLOSED discards, has no effect: REFCLK is stopped, a reset holds the part, a break lasts, or the wait
for RXD high goes on (R30, R44, R151, R154, R156). -/
def Part.byteStep (p : Part) (c : RxCharacter) : Part :=
  if p.takesCharacter c.high && decide (p.port.rxState ≠ .closed) then
    match c.stop with
    | .high => p.endHighWait.receiveByte c.data
    | .low => p.endHighWait
  else p

/-- The step of GAP_EXPIRY (R155); no effect when no gap expiry is due. -/
def Part.gapStep (p : Part) : Part :=
  if p.gapDue then (p.setReceiver .hunt).setErrors { p.port.errors with gap := satSucc 65535 p.port.errors.gap } else p

/-- RXD is in a break, or is so no longer. -/
def Part.setBreak (p : Part) (inBreak : Bool) : Part := { p with port := { p.port with inBreak := inBreak } }

/-- The step of BREAK: once however long it lasts, and counted nowhere while the receiver is CLOSED (R156). DEDUCED, log entry
25: nor while a reset holds the part, for RXD is not received then (R44); that the line is low is kept. -/
def Part.breakStep (p : Part) : Part :=
  if p.refclk && !p.port.inBreak then
    let q := p.setBreak true
    if !p.clocked || decide (p.port.rxState = .closed) then q
    else (q.setReceiver .hunt).setErrors { p.port.errors with breaks := satSucc 65535 p.port.errors.breaks }
  else p

/-- The step of BREAK_END: characters are taken again once RXD has been high for one character time (R151, R156); no effect
when no break lasts, nor while REFCLK is stopped: the receiver stands still then (R30). While a reset holds the part the break
is over without a wait: the completion begins one (R151; log entry 25). -/
def Part.breakEndStep (p : Part) : Part :=
  if p.refclk && p.port.inBreak then
    if p.clocked then (p.setBreak false).awaitHigh (plus p.time (quietCharacterMicros p.port.baud)) else p.setBreak false
  else p

/-! ### The transmitter (R160) -/

/-- The step of TX_FRAME_END: the transmitter chooses the next frame, or becomes IDLE (R160). The end of a RESET reply of
status OK is COMMAND_RESET_EXECUTION's (R163); no effect there, nor while no frame has ended. -/
def Part.frameEndStep (p : Part) : Part :=
  match p.frameDone with
  | none => p
  | some f => if f.isResetReply then p else ({ p with port := { p.port with tx := .idle } } : Part).arbitrate

/-! ### The meanings -/

/-- BYTE_RECEIVED (R151, R154). -/
def execByteReceived (byte : RxCharacter) (s : State) : Host.Outcome State Fault Refusal :=
  .next { s with toPart := s.toPart.byteStep byte }

/-- GAP_EXPIRY (R155). -/
def execGapExpiry (s : State) : Host.Outcome State Fault Refusal := .next { s with toPart := s.toPart.gapStep }

/-- BREAK (R156). -/
def execBreakSeen (s : State) : Host.Outcome State Fault Refusal := .next { s with toPart := s.toPart.breakStep }

/-- BREAK_END (R156). -/
def execBreakEnd (s : State) : Host.Outcome State Fault Refusal := .next { s with toPart := s.toPart.breakEndStep }

/-- TX_FRAME_END (R160). -/
def execTxFrameEnd (s : State) : Host.Outcome State Fault Refusal := .next { s with toPart := s.toPart.frameEndStep }

end Sys2Proof.Machine
end

