-- ==== Sys2Proof/Machine/Resets.lean ====
section
/-! DEFINITION. The command reset (R163), the pin reset and the power-on reset with their completions (R44), and the stop and
return of REFCLK (R30). -/

namespace Sys2Proof.Machine

open Sys2Proof

/-- The input lines after a reset, at their first samples: bit n of `inputs` is set when INn is HIGH (R38). -/
def freshInputs (inputs : BitVec 16) : Vector InputLine 16 :=
  Vector.ofFn (fun i : InId => InputLine.fresh (levelOfBit (inputs.getLsbD i.val)))

/-! ### The command reset (R163) -/

/-- The earliest byte time after the command reset: that of a character that begins at the reset, 9.5 bit times on, and not
before that of a wait that is still on (R151; log entry 9). -/
def Part.readyAfterReset (p : Part) : Time :=
  match p.port.rxReadyAt with
  | none => plus p.time (characterMicros p.port.baud)
  | some t => laterOf (plus p.time (characterMicros p.port.baud)) t

/-- The command reset executes: jobs, lines, cells, schedule, queue and port return to their defaults and the RESTART report is
admitted; device time, baud and a break that lasts stay (R29, R38, R43, R149, R163, R164). -/
def Part.commandReset (p : Part) (inputs : BitVec 16) : Part :=
  { p with
    inputs := freshInputs inputs
    deliveries := []
    outputs := Vector.replicate 8 OutputLine.fresh
    cells := Vector.replicate 24 Cell.free
    jobs := Vector.replicate 32 Job.free
    schedule := []
    reports := Reporter.restarted .command p.time
    port := { Port.fresh p.port.baud (some p.readyAfterReset) with inBreak := p.port.inBreak } }

/-- The step of COMMAND_RESET_EXECUTION; no effect unless the last byte of a RESET reply of status OK leaves TXD. -/
def Part.commandResetStep (p : Part) (inputs : BitVec 16) : Part :=
  match p.frameDone with
  | none => p
  | some f => if f.isResetReply then p.commandReset inputs else p

/-! ### Pin reset and power-on reset (R44) -/

/-- The part while a reset holds it: device time 0, outputs LOW and unowned, the frame in transmission cut, everything
discarded (R29, R30, R43, R44). A break that lasts stays one (R151, R156; log entry 25). -/
def Part.inReset (p : Part) (hold : ResetHold) : Part :=
  { p with
    time := 0#48
    resetHold := hold
    inputs := p.inputs.map (fun l => InputLine.fresh l.filtered)
    deliveries := []
    outputs := Vector.replicate 8 OutputLine.fresh
    cells := Vector.replicate 24 Cell.free
    jobs := Vector.replicate 32 Job.free
    schedule := []
    reports := Reporter.fresh
    port := { Port.fresh p.port.baud none with inBreak := p.port.inBreak } }

/-- A reset completes: straps sampled, device time from 0, first samples taken up, RESTART admitted (R44, R151, R164). A break
that lasts goes on, so its end begins the wait of R151 again (log entry 25). -/
def Part.complete (p : Part) (cause : ResetCause) (straps : BitVec 2) (inputs : BitVec 16) : Part :=
  { p.inReset .none with
    inputs := freshInputs inputs
    reports := Reporter.restarted cause 0#48
    port :=
      { Port.fresh (Baud.ofStraps straps) (some (plus 0#48 (characterMicros (Baud.ofStraps straps)))) with
        inBreak := p.port.inBreak } }

/-- The step of PIN_RESET: RESET_N is low; a power-on reset in force stays in force (R44). -/
def Part.pinResetStep (p : Part) : Part :=
  match p.resetHold with
  | .none => { p.inReset .pin with resetN := .low }
  | .pin => { p with resetN := .low }
  | .power => { p with resetN := .low }
  | .powerWaiting => { p with resetN := .low }

/-- The step of PIN_RESET_COMPLETION: RESET_N is high; a pin reset completes with cause PIN, and a power-on reset whose
completion waited for RESET_N with cause POWER (R44). -/
def Part.pinCompletionStep (p : Part) (straps : BitVec 2) (inputs : BitVec 16) : Part :=
  match p.resetHold with
  | .none => { p with resetN := .high }
  | .pin => { p.complete .pin straps inputs with resetN := .high }
  | .power => { p with resetN := .high }
  | .powerWaiting => { p.complete .power straps inputs with resetN := .high }

/-- The step of POWER_ON_RESET (R44). -/
def Part.powerOnStep (p : Part) : Part := p.inReset .power

/-- The step of POWER_ON_RESET_COMPLETION: it completes, or waits while RESET_N is low; no effect unless a power-on reset is in
force (R44). -/
def Part.powerCompletionStep (p : Part) (straps : BitVec 2) (inputs : BitVec 16) : Part :=
  match p.resetHold, p.resetN with
  | .power, .high => p.complete .power straps inputs
  | .power, .low => { p with resetHold := .powerWaiting }
  | .none, _ => p
  | .pin, _ => p
  | .powerWaiting, _ => p

/-! ### The meanings -/

/-- COMMAND_RESET_EXECUTION (R163). -/
def execCommandResetExecution (inputs : BitVec 16) (s : State) : Host.Outcome State Fault Refusal :=
  .next { s with toPart := s.toPart.commandResetStep inputs }

/-- PIN_RESET (R44). -/
def execPinReset (s : State) : Host.Outcome State Fault Refusal := .next { s with toPart := s.toPart.pinResetStep }

/-- PIN_RESET_COMPLETION (R44). -/
def execPinResetCompletion (straps : BitVec 2) (inputs : BitVec 16) (s : State) : Host.Outcome State Fault Refusal :=
  .next { s with toPart := s.toPart.pinCompletionStep straps inputs }

/-- POWER_ON_RESET (R44). -/
def execPowerOnReset (s : State) : Host.Outcome State Fault Refusal := .next { s with toPart := s.toPart.powerOnStep }

/-- POWER_ON_RESET_COMPLETION (R44). -/
def execPowerOnResetCompletion (straps : BitVec 2) (inputs : BitVec 16) (s : State) : Host.Outcome State Fault Refusal :=
  .next { s with toPart := s.toPart.powerCompletionStep straps inputs }

/-- REFCLK_STOPPED (R30): what runs by REFCLK stands still where it is. -/
def execRefclkStopped (s : State) : Host.Outcome State Fault Refusal :=
  .next { s with toPart := { s.toPart with refclk := false } }

/-- REFCLK_RESUMED (R30): all of it goes on; a frame that waits begins on the IDLE transmitter (R160). -/
def execRefclkResumed (s : State) : Host.Outcome State Fault Refusal :=
  .next { s with toPart := ({ s.toPart with refclk := true } : Part).arbitrate }

end Sys2Proof.Machine
end

