-- ==== Sys2Proof/Machine/Dispatch.lean ====
section
/-! DEFINITION. exec: one arm per row of spec/opcode_table.json, each one call of the row's meaning. -/

namespace Sys2Proof.Machine

open Sys2Proof

def exec (i : Instr) (s : State) : Host.Outcome State Fault Refusal :=
  match i with
  | .ident => Sys2Proof.Machine.execIdent s
  | .define => Sys2Proof.Machine.execDefine s
  | .start => Sys2Proof.Machine.execStart s
  | .stop => Sys2Proof.Machine.execStop s
  | .hold => Sys2Proof.Machine.execHold s
  | .resume => Sys2Proof.Machine.execResume s
  | .alter => Sys2Proof.Machine.execAlter s
  | .read => Sys2Proof.Machine.execRead s
  | .delete => Sys2Proof.Machine.execDelete s
  | .list => Sys2Proof.Machine.execList s
  | .ack => Sys2Proof.Machine.execAck s
  | .reconnect => Sys2Proof.Machine.execReconnect s
  | .linkcfg => Sys2Proof.Machine.execLinkcfg s
  | .linecfg => Sys2Proof.Machine.execLinecfg s
  | .drive => Sys2Proof.Machine.execDrive s
  | .sense => Sys2Proof.Machine.execSense s
  | .time => Sys2Proof.Machine.execTime s
  | .linkstat => Sys2Proof.Machine.execLinkstat s
  | .reset => Sys2Proof.Machine.execReset s
  | .unknownKind => Sys2Proof.Machine.execUnknownKind s
  | .changeUnderFiltering line level => Sys2Proof.Machine.execChangeUnderFiltering line level s
  | .edgeAcceptance line => Sys2Proof.Machine.execEdgeAcceptance line s
  | .edgeDelivery job => Sys2Proof.Machine.execEdgeDelivery job s
  | .expiry => Sys2Proof.Machine.execExpiry s
  | .tick => Sys2Proof.Machine.execTick s
  | .stall => Sys2Proof.Machine.execStall s
  | .windowEnd => Sys2Proof.Machine.execWindowEnd s
  | .echoDue => Sys2Proof.Machine.execEchoDue s
  | .activePhaseEvent job => Sys2Proof.Machine.execActivePhaseEvent job s
  | .periodEnd job => Sys2Proof.Machine.execPeriodEnd job s
  | .pulseEnd job => Sys2Proof.Machine.execPulseEnd job s
  | .turnEnd job => Sys2Proof.Machine.execTurnEnd job s
  | .retransmitTimerExpiry => Sys2Proof.Machine.execRetransmitTimerExpiry s
  | .lossPolicy job => Sys2Proof.Machine.execLossPolicy job s
  | .byteReceived byte => Sys2Proof.Machine.execByteReceived byte s
  | .gapExpiry => Sys2Proof.Machine.execGapExpiry s
  | .breakSeen => Sys2Proof.Machine.execBreakSeen s
  | .txFrameEnd => Sys2Proof.Machine.execTxFrameEnd s
  | .commandResetExecution inputs => Sys2Proof.Machine.execCommandResetExecution inputs s
  | .pinReset => Sys2Proof.Machine.execPinReset s
  | .pinResetCompletion straps inputs => Sys2Proof.Machine.execPinResetCompletion straps inputs s
  | .powerOnReset => Sys2Proof.Machine.execPowerOnReset s
  | .powerOnResetCompletion straps inputs => Sys2Proof.Machine.execPowerOnResetCompletion straps inputs s
  | .breakEnd => Sys2Proof.Machine.execBreakEnd s
  | .refclkStopped => Sys2Proof.Machine.execRefclkStopped s
  | .refclkResumed => Sys2Proof.Machine.execRefclkResumed s

end Sys2Proof.Machine
end

