-- ==== Sys2Proof/Machine/Idle.lean ====
section
/-! DEFINITION. What the part does when no step waits: the events that its own state makes due, and the running of device time
(R30, R33, R36, R83, R100, R142, R145, R155, R159, R160; log entry 4). -/

namespace Sys2Proof.Machine

open Sys2Proof

/-! ### The enabled events -/

/-- The row of the entry that falls due (section 5.1). -/
def Purpose.row : Purpose → Instr
  | .expiry => .expiry
  | .tick => .tick
  | .stall => .stall
  | .window => .windowEnd
  | .echoDue => .echoDue

/-- The row of the intake of a frame, by its kind code (R165). -/
def rowOfKind (kind : Byte) : Instr :=
  match kind.toNat with
  | 1 => .ident | 2 => .define | 3 => .start | 4 => .stop | 5 => .hold | 6 => .resume | 7 => .alter | 8 => .read
  | 9 => .delete | 10 => .list | 11 => .ack | 12 => .reconnect | 13 => .linkcfg | 14 => .linecfg | 15 => .drive
  | 16 => .sense | 17 => .time | 18 => .linkstat | 19 => .reset | _ => .unknownKind

/-- The level an input line was last sampled at: the new level of a change under filtering, else the filtered level (R33). -/
def InputLine.sampled (l : InputLine) : Level :=
  match l.change with
  | some c => c.level
  | none => l.filtered

/-- The levels last sampled, bit n for INn. -/
def Part.sampledInputs (p : Part) : BitVec 16 :=
  BitVec.ofNat 16 (packBits (p.inputs.toList.map (fun l => decide (l.sampled = .high))))

/-- The acceptances that are due (R33). -/
def Part.dueAcceptances (p : Part) : List Instr :=
  ((List.finRange 16).filter (fun i : InId => p.clocked && acceptanceDue p.time p.inputs[i])).map
    (fun i => .edgeAcceptance i.val)

/-- The cell events of one job that are due (R100). -/
def Part.dueCellEvents (p : Part) (j : JobId) : List Instr :=
  (if (p.turnDue j).isSome then [.turnEnd (jobNumber j)] else []) ++
  (if (p.wavePhaseDue j .active).isSome then [.activePhaseEvent (jobNumber j)] else []) ++
  (if (p.wavePhaseDue j .idle).isSome then [.periodEnd (jobNumber j)] else []) ++
  (if (p.pulseDue j).isSome then [.pulseEnd (jobNumber j)] else [])

/-- The head entry of the schedule, when it is due (R83). -/
def Part.dueDeadline (p : Part) : List Instr :=
  match p.dueEntry with
  | none => []
  | some e => [e.purpose.row]

/-- The end of the frame in transmission, when its time has come (R160, R163). -/
def Part.dueFrameEnd (p : Part) : List Instr :=
  match p.frameDone with
  | none => []
  | some f => if f.isResetReply then [.commandResetExecution p.sampledInputs] else [.txFrameEnd]

/-- The intake that the Command Interpreter makes (R159). -/
def Part.dueIntake (p : Part) : List Instr :=
  match p.frameToTake with
  | none => []
  | some f => [rowOfKind f.kind]

/-- Every step that the part's own state makes due now. -/
def Part.enabled (p : Part) : List Instr :=
  p.dueAcceptances ++ p.deliveries.map (fun d => .edgeDelivery (jobNumber d.job)) ++ p.dueDeadline ++
    (List.finRange 32).flatMap p.dueCellEvents ++ (if p.timerDue then [.retransmitTimerExpiry] else []) ++
    p.reports.lossDeliveries.map (fun d => .lossPolicy (jobNumber d.job)) ++ (if p.gapDue then [.gapExpiry] else []) ++
    p.dueFrameEnd ++ p.dueIntake

/-! ### Device time -/

/-- An interval open for 2^33 µs is marked as aged: its sample is 4,294,967,295 from then on (R65). -/
def OpenInterval.age (i : OpenInterval) (now : Time) : OpenInterval :=
  { i with aged := i.aged || decide (2 ^ 33 ≤ (now - i.openedAt).toNat) }

/-- The age of the open interval of a job is kept as device time runs (R65). -/
def Job.age (b : Job) (now : Time) : Job :=
  match b.defn with
  | none => b
  | some d =>
    match d.work with
    | .measure m g =>
      { b with defn := some { d with work := .measure m { g with interval := g.interval.map (fun i => i.age now) } } }
    | .count _ _ => b
    | .delay _ _ => b
    | .tick _ _ => b
    | .wave _ _ => b
    | .echo _ _ => b

/-- The wait for RXD high is over once device time has reached its end (R151). -/
def Port.endWait (q : Port) (now : Time) : Port :=
  { q with rxReadyAt := q.rxReadyAt.filter (fun t => !reached now t) }

/-- One microsecond of device time passes (R30). -/
def Part.advance (p : Part) : Part :=
  { p with
    time := p.time + 1#48
    jobs := p.jobs.map (fun b => b.age (p.time + 1#48))
    port := p.port.endWait (p.time + 1#48) }

/-- The IDLE transmitter has a frame to begin (R160). -/
def Part.txReady (p : Part) : Bool :=
  match p.port.tx with
  | .sending _ _ => false
  | .idle => p.clocked && (!p.port.replies.isEmpty || p.reports.eligible.isSome)

/-- The event that is taken first of several: a FREE VALUE, since either may be (R22, R36; log entry 1). -/
def Part.choose (p : Part) (first : Instr) (rest : List Instr) : Instr :=
  (first :: rest).getD (Config.eventChoice p.choices % (rest.length + 1)) first

/-- What the part does on an empty queue: an IDLE transmitter begins the frame that is ready; else an enabled event is
taken; else device time runs on by a microsecond, unless a reset holds it or REFCLK is stopped (log entry 4). -/
def idle (s : State) : Host.Outcome State Fault Refusal :=
  if s.toPart.txReady then .next { s with toPart := s.toPart.arbitrate }
  else
    match s.toPart.enabled with
    | [] => if s.toPart.clocked then .next { s with toPart := s.toPart.advance } else .next s
    | [i] => exec i s
    | i :: rest => exec (s.toPart.choose i rest) { s with choices := s.choices + 1 }

end Sys2Proof.Machine
end

