-- ==== Sys2Proof/Machine/Step.lean ====
section
/-! DEFINITION. One step: the step at the front of the queue, or what the part does when none waits. -/

namespace Sys2Proof.Machine

open Sys2Proof

/-- The step at the FRONT of the queue is run with the queue's rest; on an empty queue the part idles. -/
def step (s : State) : Host.Outcome State Fault Refusal :=
  match s.pending with
  | [] => idle s
  | i :: rest => exec i { s with pending := rest }

/-- The state with the step that a word spells put at the front of its queue; unchanged where the word spells none. -/
def State.withFetchWord (s : State) (nbits w : Nat) : State :=
  match decodeTableWord nbits w with
  | none => s
  | some i => { s with pending := i :: s.pending }

end Sys2Proof.Machine
end

