-- ==== Sys2Proof/Safety.lean ====
section
/-! DEFINITION. What counts as a sound part: the laws that the manual states of the whole machine, each kept by every step
(R1, R3, R23, R26, R36, R39, R80, R81, R110, R134, R138, R142, R154, R155, R158, R159, R162), and the words in which the statements
speak of an intake and its reply. -/

namespace Sys2Proof.Machine

open Sys2Proof

/-! ### The laws -/

/-- How many jobs are live (section 1.2). -/
def Part.liveJobs (p : Part) : Nat := (List.finRange 32).countP (fun j => p.jobs[j].state.live)

/-- R26: each live job, and no other, holds one reservation; the reservation count is the number of live jobs; occupancy plus
reservations is at most 64. -/
abbrev Part.ReservationLaw (p : Part) : Prop :=
  (∀ j : JobId, p.jobs[j].reservation = p.jobs[j].state.live) ∧
  p.reports.reservations = p.liveJobs ∧
  p.occupancy + p.reports.reservations ≤ 64

/-- The place of a delivery state in the order of the queue (R138). -/
def DeliveryState.rank : DeliveryState → Nat
  | .sent => 0
  | .resend => 1
  | .new => 2

/-- R134: the sequence numbers of a queue are consecutive, and the last stands just before `next`. -/
def numbered (next : BitVec 16) : List ReportEntry → Bool
  | [] => true
  | e :: es => decide (e.seq = next - BitVec.ofNat 16 (es.length + 1)) && numbered next es

/-- R134, R138, R142: consecutive sequence numbers; SENT entries, then RESEND entries, then NEW entries; at most 8
transmitted entries; the retransmit timer runs exactly while the link is UP and SENT entries exist. -/
abbrev Part.QueueLaw (p : Part) : Prop :=
  numbered p.reports.nextSeq p.reports.queue = true ∧
  p.reports.queue.Pairwise (fun a b => a.delivery.rank ≤ b.delivery.rank) ∧
  p.reports.queue.countP (fun e => decide (e.delivery ≠ .new)) ≤ 8 ∧
  (p.reports.timer.isSome = true ↔ p.reports.link = .up ∧ 0 < sentCount p.reports.queue)

/-- The purpose of the entries that a kind and mode of work places (R80). -/
def Work.purpose : Work → Option Purpose
  | .count _ _ => none
  | .measure m _ => match m.mode with
    | .period => some .stall
    | .high => some .stall
    | .low => some .stall
    | .rate _ _ => some .window
  | .delay _ _ => some .expiry
  | .tick _ _ => some .tick
  | .wave _ _ => none
  | .echo _ _ => some .echoDue

/-- R80, R81: at most one entry per job, only for jobs in RUNNING or STOPPING, of the purpose that the job's kind and mode
fix. -/
abbrev Part.ScheduleLaw (p : Part) : Prop :=
  p.schedule.Pairwise (fun a b => a.job ≠ b.job) ∧
  ∀ e ∈ p.schedule, p.jobs[e.job].state.working = true ∧ (p.workOf e.job).bind Work.purpose = some e.purpose

/-- Whether a job's definition names an output line. -/
def Job.names (b : Job) (o : OutId) : Bool :=
  match b.defn with
  | none => false
  | some d => match d.output with
    | none => false
    | some u => decide (u.line = o)

/-- Whether a line stands at the idle level of a definition that names it. -/
def Definition.idleAt (d : Definition) (o : OutId) (level : Level) : Bool :=
  match d.output with
  | none => true
  | some u => if u.line = o then decide (level = u.idle) else true

/-- R39: a line is owned by a job exactly while that job is live and names it; a line owned by a job in ARMED or HELD is at
that job's idle level. -/
abbrev Part.OutputLaw (p : Part) : Prop :=
  (∀ (o : OutId) (j : JobId), p.outputs[o].owner = some j ↔ p.jobs[j].state.live = true ∧ p.jobs[j].names o = true) ∧
  ∀ (o : OutId) (j : JobId), p.jobs[j].state = .armed ∨ p.jobs[j].state = .held →
    ∀ d, p.jobs[j].defn = some d → d.idleAt o p.outputs[o].level = true

/-- R23: a job holds cells while it is live, and then exactly the number its kind and width require; a cell is held by a job
exactly when the job's list names it; a free cell has count 0 and measures no phase out. -/
abbrev Part.CellLaw (p : Part) : Prop :=
  (∀ j : JobId, p.jobs[j].state.live = true → (p.workOf j).map Work.cellsNeeded = some p.jobs[j].cells.length) ∧
  (∀ j : JobId, p.jobs[j].state.live = false → p.jobs[j].cells = []) ∧
  (∀ j : JobId, p.jobs[j].cells.Nodup) ∧
  (∀ (c : CellId) (j : JobId), p.cells[c].owner = some j ↔ c ∈ p.jobs[j].cells) ∧
  ∀ c : CellId, p.cells[c].owner = none → p.cells[c] = Cell.free

/-- Whether a live job may hold a staged alteration in a state (R4, R13, R18). -/
def JobState.stages : JobState → Bool
  | .running => true
  | .held => true
  | .free => false
  | .defined => false
  | .armed => false
  | .stopping => false
  | .ended => false

/-- R1, R3, R4, R36: a definition in every state except FREE; a result in ENDED only; a staged alteration in RUNNING or HELD
only; the lost counter at most 255, and 0 while the job is not live; edges are outstanding to live jobs only. -/
abbrev Part.RecordLaw (p : Part) : Prop :=
  (∀ j : JobId, p.jobs[j].defn.isSome = true ↔ p.jobs[j].state ≠ .free) ∧
  (∀ j : JobId, p.jobs[j].result.isSome = true ↔ p.jobs[j].state = .ended) ∧
  (∀ j : JobId, p.jobs[j].staged.isSome = true → p.jobs[j].state.stages = true) ∧
  (∀ j : JobId, p.jobs[j].lost ≤ 255 ∧ (p.jobs[j].state.live = false → p.jobs[j].lost = 0)) ∧
  ∀ d ∈ p.deliveries, p.jobs[d.job].state.live = true

/-- Whether the receiver is inside a frame (R154). -/
def RxState.inFrame : RxState → Bool
  | .length => true
  | .body => true
  | .check => true
  | .hunt => false
  | .closed => false

/-- R154, R155, R157, R158, R159, R162: a frame under reception and a gap expiry exactly in LENGTH, BODY and CHECK; CLOSED
exactly while a RESET awaits execution; at most 2 frames in the receive buffer and 4 replies in the reply queue; error
counters at most 65,535. -/
abbrev Part.PortLaw (p : Part) : Prop :=
  (p.port.rxFrame.isSome = true ↔ p.port.rxState.inFrame = true) ∧
  (p.port.gapExpiry.isSome = true ↔ p.port.rxState.inFrame = true) ∧
  (p.port.resetPending = true ↔ p.port.rxState = .closed) ∧
  p.port.rxBuffer.length ≤ 2 ∧ p.port.replies.length ≤ 4 ∧
  p.port.errors.noise ≤ 65535 ∧ p.port.errors.badFrameLength ≤ 65535 ∧ p.port.errors.gap ≤ 65535 ∧
  p.port.errors.crc ≤ 65535 ∧ p.port.errors.breaks ≤ 65535 ∧ p.port.errors.overrun ≤ 65535

/-- A sound part: every law holds. -/
abbrev Part.Sound (p : Part) : Prop :=
  p.ReservationLaw ∧ p.QueueLaw ∧ p.ScheduleLaw ∧ p.OutputLaw ∧ p.CellLaw ∧ p.RecordLaw ∧ p.PortLaw

/-! ### Definitions that R7 allows -/

/-- The parameters of a kind lie in the ranges of its chapter (R45, R46, R60, R61, R85, R91, R101, R110). -/
def Work.inRange : Work → Bool
  | .count c _ =>
    decide (c.limit ≤ c.width.largest) && decide (c.step ≤ 65535) &&
      (match c.gate with
        | none => true
        | some g => decide (g.line ≠ c.source))
  | .measure m _ =>
    decide (m.lowLimit ≤ 4294967295) && decide (m.highLimit ≤ 4294967295) &&
      (decide (m.lowLimit = 0) || decide (m.highLimit = 0) || decide (m.lowLimit ≤ m.highLimit)) &&
      decide (m.reportInterval ≤ 255) &&
      (match m.mode with
        | .rate _ window => decide (1000 ≤ window) && decide (window ≤ 10000000) && !m.stall
        | .period => !m.stall || decide (m.highLimit ≠ 0)
        | .high => !m.stall || decide (m.highLimit ≠ 0)
        | .low => !m.stall || decide (m.highLimit ≠ 0))
  | .delay d _ => decide (1 ≤ d.duration) && decide (d.duration ≤ 4294967295)
  | .tick t _ => decide (10 ≤ t.period) && decide (t.period ≤ 4294967295) && decide (t.limit ≤ 65535)
  | .wave w _ =>
    decide (10 ≤ w.period) && decide (w.period ≤ 16777215) && decide (1 ≤ w.width) && decide (w.width < w.period) &&
      decide (w.limit ≤ 65535)
  | .echo e _ =>
    decide (e.delay ≤ 16777215) && decide (1 ≤ e.width) && decide (e.width ≤ 65535) && decide (e.limit ≤ 65535)

/-- Whether a kind takes the output line of a definition: required for WAVE and ECHO, optional for DELAY, none otherwise
(R1, R7). -/
def Work.takesOutput (w : Work) (output : Option OutputUse) : Bool :=
  match w with
  | .wave _ _ => output.isSome
  | .echo _ _ => output.isSome
  | .delay _ _ => true
  | .count _ _ => output.isNone
  | .measure _ _ => output.isNone
  | .tick _ _ => output.isNone

/-- A definition that R7 allows. -/
def Definition.allowed (d : Definition) : Bool := d.work.inRange && d.work.takesOutput d.output

/-! ### The law of due times (R80, R81, R110) -/

/-- How far `t` lies ahead of `now`, in µs; negative when it lies behind. Device times are compared across the wrap (R31). -/
def ahead (now t : Time) : Int := (t - now).toInt

/-- Whether a staged alteration is one that the kind stages, in the ranges of R96 and R104. -/
def Work.canStage (w : Work) (staged : Staged) : Bool :=
  match w, staged with
  | .tick _ _, .period period => decide (10 ≤ period) && decide (period ≤ 4294967295)
  | .wave _ _, .pair period width =>
    decide (10 ≤ period) && decide (period ≤ 16777215) && decide (1 ≤ width) && decide (width < period)
  | .tick _ _, .pair _ _ => false
  | .wave _ _, .period _ => false
  | .count _ _, _ => false
  | .measure _ _, _ => false
  | .delay _ _, _ => false
  | .echo _ _, _ => false

/-- R110, R112: the pending list of an ECHO job, `before` being the end of the pulse before its head, when there is one. Widths
are 1–65,535; each entry is due now or later, no earlier than the end of the pulse before it, and at most 16,777,215 µs
ahead unless it is due exactly at that end. -/
def chained (now : Time) : Option Time → List PendingPulse → Bool
  | _, [] => true
  | none, x :: xs =>
    decide (1 ≤ x.width) && decide (x.width ≤ 65535) && decide (0 ≤ ahead now x.due) && decide (ahead now x.due ≤ 16777215) &&
      chained now (some (plus x.due x.width)) xs
  | some t, x :: xs =>
    decide (1 ≤ x.width) && decide (x.width ≤ 65535) && decide (0 ≤ ahead now x.due) && decide (ahead now t ≤ ahead now x.due) &&
      (decide (x.due = t) || decide (ahead now x.due ≤ 16777215)) && chained now (some (plus x.due x.width)) xs

/-- R110, R112, R114: the pending list and the pulse of an ECHO job: empty unless the job is RUNNING or STOPPING; at most 8
entries, chained; the ECHO_DUE entry is the head's; a pulse ends when the phase of the job's cell does, and not before the
present. -/
def Part.echoTimed (p : Part) (j : JobId) (g : EchoProgress) : Bool :=
  (p.jobs[j].state.working || (g.pendingList.isEmpty && g.pulse.isNone)) &&
  decide (g.pendingList.length ≤ 8) && chained p.time (g.pulse.map (fun u => u.endTime)) g.pendingList &&
  decide ((p.entryOf j).map (fun e => e.due) = g.pendingList.head?.map (fun x => x.due)) &&
  match g.pulse with
  | none => true
  | some u =>
    decide (0 ≤ ahead p.time u.endTime) && decide (ahead p.time u.endTime ≤ 65535) &&
      decide ((p.phaseOf j).map (fun ph => ph.endTime) = some u.endTime)

/-- What the due times of a kind rest on: no interval is open in ARMED or HELD (R62, R73); a remaining time saved at HOLD fits
its schedule entry (R88, R95); the list of an ECHO job (R110). -/
def Part.workTimed (p : Part) (j : JobId) (w : Work) : Bool :=
  match w with
  | .count _ _ => true
  | .measure _ g => decide (p.jobs[j].state ≠ .armed ∧ p.jobs[j].state ≠ .held) || g.interval.isNone
  | .delay _ g => decide (p.jobs[j].state ≠ .held) || decide (g.remaining ≤ 4294967296)
  | .tick _ g => decide (p.jobs[j].state ≠ .held) || decide (g.remaining ≤ 4294967296)
  | .wave _ _ => true
  | .echo _ g => p.echoTimed j g

/-- What the due times of a job rest on: a definition that R7 allows, a staged alteration in range, and its progress. -/
def Part.jobTimed (p : Part) (j : JobId) : Bool :=
  match p.jobs[j].defn with
  | none => true
  | some d => d.allowed && (p.jobs[j].staged.all d.work.canStage) && p.workTimed j d.work

/-- R70, R76: a STALL entry is due one µs past the high limit after its reference, and that lies not ahead of the present. -/
def Part.stallTimed (p : Part) (e : DeadlineEntry) : Bool :=
  match p.workOf e.job with
  | some (.measure m g) =>
    match g.stallReference with
    | none => false
    | some ref =>
      m.stall && decide (e.due = stallDue ref m.highLimit) && decide (ahead p.time ref ≤ 0) &&
        decide (-4294967359 ≤ ahead p.time ref)
  | some (.count _ _) => false
  | some (.delay _ _) => false
  | some (.tick _ _) => false
  | some (.wave _ _) => false
  | some (.echo _ _) => false
  | none => false

/-- R33: a filter setting is at most 63, and a change under filtering is accepted within its filter time. -/
def Part.lineTimed (p : Part) (i : InId) : Bool :=
  decide (p.inputs[i].filter ≤ 63) &&
  match p.inputs[i].change with
  | none => true
  | some c =>
    decide (c.filterTime ≤ 63) && decide (0 ≤ ahead p.time (plus c.firstSeen c.filterTime)) &&
      decide (ahead p.time (plus c.firstSeen c.filterTime) ≤ 63)

/-- R80, R81, R110: the schedule stands in order of due time, each entry at most 63 µs behind the present, the longest an edge
waits in the filter, and at most 2^32 µs ahead; the pending list of each ECHO job has at most 8 entries in strictly increasing
due time, each due no earlier than the end of the pulse before it; with what these rest on. -/
abbrev Part.TimeLaw (p : Part) : Prop :=
  p.schedule.Pairwise (fun a b => ahead p.time a.due ≤ ahead p.time b.due) ∧
  (∀ e ∈ p.schedule, -63 ≤ ahead p.time e.due ∧ ahead p.time e.due ≤ 4294967296 ∧
    (e.purpose = .stall → p.stallTimed e = true)) ∧
  (∀ j : JobId, p.jobTimed j = true) ∧ (∀ i : InId, p.lineTimed i = true) ∧
  ∀ d ∈ p.deliveries, ahead p.time d.edge.acceptance = 0 ∧ -63 ≤ ahead p.time d.edge.edgeTime ∧
    ahead p.time d.edge.edgeTime ≤ 0

/-! ### An intake and its reply (R159, R166) -/

/-- The state with another part and the same queue of waiting steps. -/
def State.withPart (s : State) (p : Part) : State := { toPart := p, pending := s.pending }

/-- The Command Interpreter may take `f` now: it is the oldest frame of the receive buffer, a reply slot is free and no RESET
awaits execution (R159). -/
def Part.Takes (p : Part) (f : Frame) : Prop := p.frameToTake = some f

/-- The part after the reply to `f` has been appended, and begun if the transmitter was IDLE (R159, R160, R166). -/
def Part.answered (p : Part) (f : Frame) (payload : List Byte) : Part :=
  (p.appendReply { kind := f.kind + 0x80#8, tag := f.tag, payload := payload }).arbitrate

/-- The part after `f` has been refused: the frame is gone, two bytes are the reply, and nothing else has changed (R166). -/
def Part.refused (p : Part) (f : Frame) (status detail : Byte) : Part := p.dropFrame.answered f [status, detail]

/-- The rows whose step is the intake of a frame (R159). -/
def commandRows : List Instr :=
  [.ident, .define, .start, .stop, .hold, .resume, .alter, .read, .delete, .list, .ack, .reconnect, .linkcfg, .linecfg,
   .drive, .sense, .time, .linkstat, .reset, .unknownKind]

/-! ### What a kind does at RUNNING entry -/

/-- The deadline entry that a kind places at RUNNING entry at `t` (R68, R70, R86, R92). -/
def Work.entryDeadline (w : Work) (t : Time) : Option (Purpose × Time) :=
  match w with
  | .delay d _ => some (.expiry, plus t d.duration)
  | .tick k _ => some (.tick, plus t k.period)
  | .measure m _ => match m.mode with
    | .period => if m.stall then some (.stall, plus t (m.highLimit + 1)) else none
    | .rate _ window => some (.window, plus t window)
    | .high => none
    | .low => none
  | .count _ _ => none
  | .wave _ _ => none
  | .echo _ _ => none

/-- Whether a kind drives its line active at RUNNING entry (R40, R86, R102). -/
def Work.activeAtEntry : Work → Bool
  | .delay _ _ => true
  | .wave _ _ => true
  | .count _ _ => false
  | .measure _ _ => false
  | .tick _ _ => false
  | .echo _ _ => false

/-- The progress of a kind right after RUNNING entry at `t` (R62, R68, R70, R102). -/
def Work.atEntry (w : Work) (t : Time) : Work :=
  match w with
  | .measure m g => match m.mode with
    | .period => if m.stall then .measure m { g with stallRef := some t } else .measure m g
    | .rate _ _ => .measure m { g with windowStart := some t }
    | .high => .measure m g
    | .low => .measure m g
  | .wave v g => .wave v { g with phase := some .active, periodStart := some t, turnsLeft := v.width / 65536 }
  | .count c g => .count c g
  | .delay d g => .delay d g
  | .tick k g => .tick k g
  | .echo e g => .echo e g

/-! ### DEFINE payloads (R170) -/

/-- What the fields hold that R170 has a DEFINE ignore. -/
structure Fill where
  armingLine : Byte
  armingPolarity : Byte
  target : Byte
  idleLevel : Byte
  gateLevel : Byte
  rateEdge : Byte
deriving DecidableEq, Repr

/-- The bytes that a READ reply carries in such fields (R173). -/
def Fill.blank : Fill :=
  { armingLine := 0xFF#8, armingPolarity := 0x00#8, target := 0x00#8, idleLevel := 0x00#8, gateLevel := 0x00#8,
    rateEdge := 0x00#8 }

/-- The arming fields of a DEFINE payload: start mode, arming line, arming polarity. -/
def StartMode.encode (x : Fill) : StartMode → List Byte
  | .immediate => [0x00#8, x.armingLine, x.armingPolarity]
  | .onLink => [0x01#8, x.armingLine, x.armingPolarity]
  | .onEdge line polarity => [0x02#8, BitVec.ofNat 8 line.val, BitVec.ofNat 8 polarity.code]

/-- The end action and its target. -/
def encodeEndAction (x : Fill) : Option EndAction → List Byte
  | none => [0x00#8, x.target]
  | some (.start t) => [0x01#8, BitVec.ofNat 8 (jobNumber t)]
  | some (.stop t) => [0x02#8, BitVec.ofNat 8 (jobNumber t)]

/-- The output line and its idle level. -/
def encodeOutput (x : Fill) : Option OutputUse → List Byte
  | none => [0xFF#8, x.idleLevel]
  | some u => [BitVec.ofNat 8 u.line.val, BitVec.ofNat 8 (levelCode u.idle)]

/-- The code of an edge selection (R168). -/
def EdgeSelect.code : EdgeSelect → Nat
  | .rising => 1
  | .falling => 2
  | .both => 3

/-- The gate line and the gate level of a COUNT block. -/
def encodeGate (x : Fill) : Option Gate → List Byte
  | none => [0xFF#8, x.gateLevel]
  | some g => [BitVec.ofNat 8 g.line.val, BitVec.ofNat 8 (levelCode g.level)]

/-- The mode, rate edge and window length of a MEASURE block; outside RATE the window length must be 0 (R61). -/
def MeasureMode.encode (x : Fill) : MeasureMode → List Byte
  | .period => [0x01#8, x.rateEdge] ++ beBytes 4 0
  | .high => [0x02#8, x.rateEdge] ++ beBytes 4 0
  | .low => [0x03#8, x.rateEdge] ++ beBytes 4 0
  | .rate edge window => [0x04#8, BitVec.ofNat 8 edge.code] ++ beBytes 4 window

/-- The block of a kind. -/
def Work.encode (x : Fill) : Work → List Byte
  | .count c _ =>
    [BitVec.ofNat 8 c.source.val, BitVec.ofNat 8 c.edge.code, if c.width = .w32 then 0x20#8 else 0x10#8] ++
      encodeGate x c.gate ++ beBytes 4 c.limit ++ beBytes 2 c.step
  | .measure m _ =>
    [BitVec.ofNat 8 m.source.val] ++ m.mode.encode x ++ beBytes 4 m.lowLimit ++ beBytes 4 m.highLimit ++
      [if m.stall then 0x01#8 else 0x00#8] ++ beBytes 1 m.reportInterval
  | .delay d _ => beBytes 4 d.duration
  | .tick t _ => beBytes 4 t.period ++ beBytes 2 t.limit
  | .wave w _ => beBytes 3 w.period ++ beBytes 3 w.width ++ beBytes 2 w.limit
  | .echo e _ =>
    [BitVec.ofNat 8 e.source.val, BitVec.ofNat 8 e.edge.code] ++ beBytes 3 e.delay ++ beBytes 2 e.width ++
      [BitVec.ofNat 8 e.overlap.code] ++ beBytes 2 e.limit

/-- The DEFINE payload that gives a job a definition, its ignored fields holding `x` (R170). -/
def Definition.encode (x : Fill) (d : Definition) (j : JobId) : List Byte :=
  [BitVec.ofNat 8 (jobNumber j), BitVec.ofNat 8 d.work.kind.code] ++ d.startMode.encode x ++ encodeEndAction x d.endAction ++
    encodeOutput x d.output ++ d.work.encode x

end Sys2Proof.Machine
end

