-- ==== Sys2Proof/Certificates/Slice0/Obligations.lean ====
section
/-! DEFINITION. The statements for the provers. -/

open Sys2Proof Sys2Proof.Machine

/-! ### Steps, the queue and the idle step -/

/-- One step runs the step at the front of the queue, with the queue's rest. -/
def Obligations.StepRunsFrontOfQueue : Prop :=
  ∀ (i : Instr) (rest : List Instr) (s : State),
    step { s with pending := i :: rest } = exec i { s with pending := rest }

/-- While the clock runs, job `j`, RUNNING or STOPPING with definition `d`, measures the phase `ph` out with its first cell. -/
def Sys2Proof.Machine.State.Times (s : State) (j : JobId) (d : Definition) (ph : CellPhase) : Prop :=
  s.clocked = true ∧ (s.jobs[j].state = .running ∨ s.jobs[j].state = .stopping) ∧ s.jobs[j].defn = some d ∧
  ∃ (c : CellId) (more : List CellId), s.jobs[j].cells = c :: more ∧ s.cells[c].phase = some ph

/-- THE MODEL'S CHOICE (log entries 1, 4, 9 and 14): on an empty queue an IDLE transmitter begins a ready frame; else one of
the events that are due is taken; else device time runs on by 1 µs, and stands still while a reset holds it or REFCLK is
stopped (R30). In that µs nothing else changes, but that an open interval is marked as aged exactly from the age of 2^33 µs
on (R65, log entry 14), and that the earliest byte time of the wait for RXD high is gone once reached (R151, log entry 9). A
frame is ready when the transmitter is IDLE, the clock runs, and a reply waits or R138 finds an entry eligible (R160). The
events that are due, so that device time passes none of them, are these and no others: an acceptance whose first-seen time
plus filter time is reached (R33); an outstanding delivery of an edge (R36, log entry 11); the head of the schedule, reached,
by the row of its purpose (R83); the end of a turn, of the active phase or of the period of a WAVE job and the end of a pulse
of an ECHO job (R100, R102, R103, R115; the times of the turns: log entry 23); the expiry of the retransmit timer (R142); an
outstanding application of the loss policy (R145, log entry 13); a gap expiry in LENGTH, BODY or CHECK (R155); the end of the
frame in transmission, which for a RESET reply of status OK is the command reset with the levels last sampled (R160, R163,
log entry 10); and the intake of the frame that the interpreter takes, by its kind (R159, R165). That a stopped clock holds
the retransmit timer and the command reset too is the model's deduction (log entry 17). -/
def Obligations.EmptyQueueIdles : Prop :=
  (∀ s : State, s.pending = [] →
    (s.txReady = true → step s = .next (s.withPart s.toPart.arbitrate)) ∧
    (s.txReady = false → s.enabled ≠ [] →
      ∃ i ∈ s.enabled, ∃ k, step s = exec i { s with choices := s.choices + k }) ∧
    (s.txReady = false → s.enabled = [] → s.clocked = true →
      ∃ t, step s = .next t ∧ t.time = s.time + 1#48 ∧
        { t with time := s.time, jobs := s.jobs, port := s.port } = s ∧
        t.port = { s.port with rxReadyAt := t.port.rxReadyAt } ∧
        (s.port.rxReadyAt = none → t.port.rxReadyAt = none) ∧
        (∀ x, s.port.rxReadyAt = some x →
          t.port.rxReadyAt = if reached (s.time + 1#48) x then none else some x) ∧
        ∀ j : JobId,
          (∀ d m g i, s.jobs[j].defn = some d → d.work = .measure m g → g.interval = some i →
            t.jobs[j] = { s.jobs[j] with defn := some { d with work := .measure m { g with
              interval := some { i with
                aged := i.aged || decide (2 ^ 33 ≤ (s.time + 1#48 - i.openedAt).toNat) } } } }) ∧
          ((∀ d m g i, s.jobs[j].defn = some d → d.work = .measure m g → g.interval ≠ some i) →
            t.jobs[j] = s.jobs[j])) ∧
    (s.txReady = false → s.enabled = [] → s.clocked = false → step s = .next s)) ∧
  (∀ p : Part, p.txReady = true ↔ p.port.tx = .idle ∧ p.clocked = true ∧
    (p.port.replies ≠ [] ∨
      (p.reports.link = .up ∧ sentCount p.reports.queue < 8 ∧ ∃ e ∈ p.reports.queue, e.delivery ≠ .sent))) ∧
  ∀ (s : State) (i : Instr), i ∈ s.enabled ↔
    (∃ (n : InId) (c : LineChange), i = .edgeAcceptance n.val ∧ s.clocked = true ∧ s.inputs[n].change = some c ∧
      reached s.time (plus c.firstSeen c.filterTime) = true) ∨
    (∃ x ∈ s.deliveries, i = .edgeDelivery (x.job.val + 1)) ∨
    (∃ (e : DeadlineEntry) (rest : List DeadlineEntry), s.schedule = e :: rest ∧ s.clocked = true ∧
      reached s.time e.due = true ∧
      i = match e.purpose with
        | .expiry => .expiry | .tick => .tick | .stall => .stall | .window => .windowEnd | .echoDue => .echoDue) ∨
    (∃ (j : JobId) (d : Definition) (ph : CellPhase) (v : WaveParams) (g : WaveProgress),
      s.Times j d ph ∧ d.work = .wave v g ∧
      ((i = .turnEnd (j.val + 1) ∧ g.turnsLeft ≠ 0 ∧
          reached s.time (plus ph.start (65536 * (ph.length / 65536 - g.turnsLeft + 1))) = true) ∨
        (g.turnsLeft = 0 ∧ reached s.time (plus ph.start ph.length) = true ∧
          ((i = .activePhaseEvent (j.val + 1) ∧ g.phase = some .active) ∨
            (i = .periodEnd (j.val + 1) ∧ g.phase = some .idle))))) ∨
    (∃ (j : JobId) (d : Definition) (ph : CellPhase) (x : EchoParams) (g : EchoProgress),
      s.Times j d ph ∧ d.work = .echo x g ∧ g.pulse ≠ none ∧ reached s.time (plus ph.start ph.length) = true ∧
      i = .pulseEnd (j.val + 1)) ∨
    (∃ t : Time, i = .retransmitTimerExpiry ∧ s.clocked = true ∧ s.reports.timer = some t ∧ reached s.time t = true) ∨
    (∃ x ∈ s.reports.lossDeliveries, i = .lossPolicy (x.job.val + 1)) ∨
    (∃ t : Time, i = .gapExpiry ∧ s.clocked = true ∧ s.port.gapExpiry = some t ∧ reached s.time t = true ∧
      (s.port.rxState = .length ∨ s.port.rxState = .body ∨ s.port.rxState = .check)) ∨
    (∃ f : Frame, s.frameDone = some f ∧
      ((f.isResetReply = false ∧ i = .txFrameEnd) ∨
        (f.isResetReply = true ∧ ∃ levels : BitVec 16, i = .commandResetExecution levels ∧
          ∀ n : InId, levels.getLsbD n.val = true ↔
            (match s.inputs[n].change with
              | some c => c.level
              | none => s.inputs[n].filtered) = .high))) ∨
    ∃ f : Frame, s.frameToTake = some f ∧
      ((f.kind.toNat, i) ∈ [(1, .ident), (2, .define), (3, .start), (4, .stop), (5, .hold), (6, .resume), (7, .alter),
          (8, .read), (9, .delete), (10, .list), (11, .ack), (12, .reconnect), (13, .linkcfg), (14, .linecfg),
          (15, .drive), (16, .sense), (17, .time), (18, .linkstat), (19, .reset)] ∨
        ((f.kind.toNat < 1 ∨ 19 < f.kind.toNat) ∧ i = .unknownKind))

/-- A step whose line and job exist always completes and leaves the queue of waiting steps as it is. That a step which is not
due completes without effect is the model's deduction (log entry 5); that a step which names a line or a job the part has not,
an ill-formed term, is refused by name is its design choice (log entry 21). -/
def Obligations.StepsCompleteAndKeepQueue : Prop :=
  ∀ (i : Instr) (s : State),
    (wellFormed i = true → ∃ t, exec i s = .next t ∧ t.pending = s.pending) ∧
    (wellFormed i = false → exec i s = .refused .noSuchLine ∨ exec i s = .refused .noSuchJob)

/-! ### Resets -/

/-- What a power-on reset leaves (sections 1.7, 2.2, 2.3, 8.8 and 9.7). That the straps and the input lines are LOW is the
model's choice (log entry 3), and that the first byte can be received at 82 µs its deduction (log entry 9). The flag of a
report entry, whether it was admitted since its job's last start, is the model's own field (log entry 20). -/
def Obligations.ResetStateValues : Prop :=
  State.reset.time = 0#48 ∧ State.reset.resetHold = .none ∧ State.reset.refclk = true ∧
  (∀ i : InId, State.reset.inputs[i] = { filter := 2, filtered := .low, change := none }) ∧
  (∀ o : OutId, State.reset.outputs[o] = { level := .low, owner := none }) ∧
  (∀ c : CellId, State.reset.cells[c] = { owner := none, count := 0#16, phase := none }) ∧
  (∀ j : JobId, State.reset.jobs[j] =
    { state := .free, defn := none, run := 0#8, cells := [], staged := none, result := none, lost := 0,
      reservation := false }) ∧
  State.reset.schedule = [] ∧ State.reset.deliveries = [] ∧
  State.reset.reports =
    { queue := [{ seq := 0#16, job := none, run := 0#8, time := 0#48, lost := 0, content := .restart .power 0x01#8,
                  delivery := .new, thisStart := true }]
      reservations := 0, nextSeq := 1#16, link := .up, retry := 0, timer := none, interval := 200, retryLimit := 4,
      policy := .holdAll, lossDeliveries := [] } ∧
  State.reset.port =
    { baud := .b115200, rxState := .hunt, rxFrame := none, gapExpiry := none, rxBuffer := [], replies := [], tx := .idle,
      errors := { noise := 0, badFrameLength := 0, gap := 0, crc := 0, breaks := 0, overrun := 0 },
      resetPending := false, inBreak := false, rxAwaitsHigh := true, rxReadyAt := some 82#48 } ∧
  State.reset.pending = []

/-- R163: the command reset executes as the last byte of the RESET reply leaves TXD. The flag of a report entry, whether it
was admitted since its job's last start, is the model's own field (log entry 20). -/
def Obligations.CommandResetExecutes : Prop :=
  ∀ (s : State) (f : Frame) (inputs : BitVec 16), s.frameDone = some f → f.isResetReply = true →
    ∃ t, exec (.commandResetExecution inputs) s = .next t ∧
      (∀ j : JobId, t.jobs[j] = Job.free) ∧ (∀ c : CellId, t.cells[c] = Cell.free) ∧ t.schedule = [] ∧
      (∀ o : OutId, t.outputs[o] = { level := .low, owner := none }) ∧
      (∀ i : InId, t.inputs[i] =
        { filter := 2, filtered := if inputs.getLsbD i.val then .high else .low, change := none }) ∧
      t.deliveries = [] ∧
      t.reports =
        { queue := [{ seq := 0#16, job := none, run := 0#8, time := s.time, lost := 0, content := .restart .command 0x01#8,
                      delivery := .new, thisStart := true }]
          reservations := 0, nextSeq := 1#16, link := .up, retry := 0, timer := none, interval := 200, retryLimit := 4,
          policy := .holdAll, lossDeliveries := [] } ∧
      t.reports.eligible = some (restartEntry .command s.time) ∧
      t.port.rxBuffer = [] ∧ t.port.replies = [] ∧ t.port.tx = .idle ∧ t.port.resetPending = false ∧
      t.port.rxState = .hunt ∧ t.port.rxFrame = none ∧ t.port.gapExpiry = none ∧
      t.port.errors = { noise := 0, badFrameLength := 0, gap := 0, crc := 0, breaks := 0, overrun := 0 } ∧
      t.port.baud = s.port.baud ∧ t.time = s.time ∧ t.refclk = s.refclk ∧ t.resetHold = s.resetHold ∧
      t.resetN = s.resetN ∧ t.choices = s.choices ∧ t.pending = s.pending

/-- What holds while a pin or power-on reset is in force (R44): device time 0, outputs LOW and unowned, everything discarded,
no frame in transmission. That the port's buffers are empty from the start of the hold is the model's (log entry 16). -/
def Sys2Proof.Machine.Part.discarded (p : Part) : Prop :=
  p.time = 0#48 ∧ p.clocked = false ∧ (∀ o : OutId, p.outputs[o] = { level := .low, owner := none }) ∧
  (∀ j : JobId, p.jobs[j] = Job.free) ∧ (∀ c : CellId, p.cells[c] = Cell.free) ∧ p.schedule = [] ∧ p.deliveries = [] ∧
  p.reports.queue = [] ∧ p.reports.reservations = 0 ∧ p.reports.timer = none ∧ p.reports.lossDeliveries = [] ∧
  p.port.tx = .idle ∧ p.port.rxBuffer = [] ∧ p.port.replies = [] ∧ p.port.resetPending = false

/-- What the completion of a pin or power-on reset leaves (R38, R43, R44, R149, R150, R151). -/
def Sys2Proof.Machine.Part.restarted (p : Part) (cause : ResetCause) (straps : BitVec 2) (inputs : BitVec 16) : Prop :=
  p.time = 0#48 ∧ p.resetHold = .none ∧
  p.port.baud = (if straps = 0#2 then .b115200 else if straps = 1#2 then .b230400 else if straps = 2#2 then .b460800
    else .b921600) ∧
  (∀ i : InId, p.inputs[i] = { filter := 2, filtered := if inputs.getLsbD i.val then .high else .low, change := none }) ∧
  (∀ o : OutId, p.outputs[o] = { level := .low, owner := none }) ∧
  (∀ j : JobId, p.jobs[j] = Job.free) ∧ (∀ c : CellId, p.cells[c] = Cell.free) ∧ p.schedule = [] ∧ p.deliveries = [] ∧
  p.reports = { Reporter.fresh with
    queue := [{ seq := 0#16, job := none, run := 0#8, time := 0#48, lost := 0, content := .restart cause 0x01#8,
                delivery := .new, thisStart := true }]
    nextSeq := 1#16 }

/-- R44: a pin reset takes effect and completes with cause PIN; a power-on reset takes effect and completes with cause POWER,
and waits for RESET_N when that is low; a pin that falls or rises otherwise changes RESET_N alone. THE MODEL'S (log entry 16,
DEDUCED): that the receive buffer and the reply queue are empty from the start of the hold, the waiting state of a power-on
reset, and that RESET_N is kept as last reported; and (log entry 5) that a completion with no reset to complete has no effect.
The flag of a report entry, whether it was admitted since its job's last start, is the model's own field (log entry 20). -/
def Obligations.PinAndPowerOnResets : Prop :=
  (∀ s : State, s.resetHold = .none →
    ∃ t, exec .pinReset s = .next t ∧ t.discarded ∧ t.resetHold = .pin ∧ t.resetN = .low ∧ t.refclk = s.refclk ∧
      t.pending = s.pending) ∧
  (∀ s : State, s.resetHold ≠ .none → exec .pinReset s = .next { s with resetN := .low }) ∧
  (∀ (s : State) (straps : BitVec 2) (inputs : BitVec 16), s.resetHold = .pin →
    ∃ t, exec (.pinResetCompletion straps inputs) s = .next t ∧ t.restarted .pin straps inputs ∧ t.resetN = .high ∧
      t.refclk = s.refclk ∧ t.pending = s.pending) ∧
  (∀ (s : State) (straps : BitVec 2) (inputs : BitVec 16), s.resetHold = .powerWaiting →
    ∃ t, exec (.pinResetCompletion straps inputs) s = .next t ∧ t.restarted .power straps inputs ∧ t.resetN = .high ∧
      t.refclk = s.refclk ∧ t.pending = s.pending) ∧
  (∀ (s : State) (straps : BitVec 2) (inputs : BitVec 16), s.resetHold = .none ∨ s.resetHold = .power →
    exec (.pinResetCompletion straps inputs) s = .next { s with resetN := .high }) ∧
  (∀ s : State, ∃ t, exec .powerOnReset s = .next t ∧ t.discarded ∧ t.resetHold = .power ∧ t.resetN = s.resetN ∧
    t.refclk = s.refclk ∧ t.pending = s.pending) ∧
  (∀ (s : State) (straps : BitVec 2) (inputs : BitVec 16), s.resetHold = .power → s.resetN = .high →
    ∃ t, exec (.powerOnResetCompletion straps inputs) s = .next t ∧ t.restarted .power straps inputs ∧
      t.resetN = .high ∧ t.refclk = s.refclk ∧ t.pending = s.pending) ∧
  (∀ (s : State) (straps : BitVec 2) (inputs : BitVec 16), s.resetHold = .power → s.resetN = .low →
    exec (.powerOnResetCompletion straps inputs) s = .next { s with resetHold := .powerWaiting }) ∧
  (∀ (s : State) (straps : BitVec 2) (inputs : BitVec 16), s.resetHold ≠ .power →
    exec (.powerOnResetCompletion straps inputs) s = .next s)

/-- What R164 says the port holds after a reset. -/
def Sys2Proof.Machine.Port.asReset (q : Port) (baud : Baud) : Prop :=
  q.baud = baud ∧ q.rxState = .hunt ∧ q.rxFrame = none ∧ q.gapExpiry = none ∧ q.rxBuffer = [] ∧ q.replies = [] ∧
  q.tx = .idle ∧ q.resetPending = false ∧
  q.errors = { noise := 0, badFrameLength := 0, gap := 0, crc := 0, breaks := 0, overrun := 0 }

/-- R164: the port after a power-on or pin reset has the baud from the straps and everything else empty; after the command
reset the same, with the baud kept from before. -/
def Obligations.PortAfterEveryReset : Prop :=
  (∀ (s : State) (straps : BitVec 2) (inputs : BitVec 16), s.resetHold = .pin ∨ s.resetHold = .powerWaiting →
    ∃ t, exec (.pinResetCompletion straps inputs) s = .next t ∧ t.port.asReset (Baud.ofStraps straps)) ∧
  (∀ (s : State) (straps : BitVec 2) (inputs : BitVec 16), s.resetHold = .power → s.resetN = .high →
    ∃ t, exec (.powerOnResetCompletion straps inputs) s = .next t ∧ t.port.asReset (Baud.ofStraps straps)) ∧
  (∀ (s : State) (f : Frame) (inputs : BitVec 16), s.frameDone = some f → f.isResetReply = true →
    ∃ t, exec (.commandResetExecution inputs) s = .next t ∧ t.port.asReset s.port.baud)

/-- The events that stand still with REFCLK (R30): samples, acceptances, deadlines, cell events, the receiver and the
transmitter; and, by the model's deduction (log entry 17), the retransmit timer, a break and its end, and the command
reset. -/
def Sys2Proof.Machine.clockedEvent : Instr → Bool
  | .changeUnderFiltering line _ => inputLineOk line
  | .edgeAcceptance line => inputLineOk line
  | .expiry => true
  | .tick => true
  | .stall => true
  | .windowEnd => true
  | .echoDue => true
  | .activePhaseEvent job => jobNumberOk job
  | .periodEnd job => jobNumberOk job
  | .pulseEnd job => jobNumberOk job
  | .turnEnd job => jobNumberOk job
  | .retransmitTimerExpiry => true
  | .byteReceived _ => true
  | .gapExpiry => true
  | .breakSeen => true
  | .breakEnd => true
  | .txFrameEnd => true
  | .commandResetExecution _ => true
  | .ident => false
  | .define => false
  | .start => false
  | .stop => false
  | .hold => false
  | .resume => false
  | .alter => false
  | .read => false
  | .delete => false
  | .list => false
  | .ack => false
  | .reconnect => false
  | .linkcfg => false
  | .linecfg => false
  | .drive => false
  | .sense => false
  | .time => false
  | .linkstat => false
  | .reset => false
  | .unknownKind => false
  | .edgeDelivery _ => false
  | .lossPolicy _ => false
  | .pinReset => false
  | .pinResetCompletion _ _ => false
  | .powerOnReset => false
  | .powerOnResetCompletion _ _ => false
  | .refclkStopped => false
  | .refclkResumed => false

/-- R30: stopping REFCLK changes nothing else; while it is stopped no event that runs by it takes place; when it returns,
all of it stands where it stood, and an IDLE transmitter makes its choice. R30 names the samples, deadlines, cells, receiver
and transmitter; that a break and its end, the retransmit timer and a command reset stand still with them is the model's
deduction (log entry 17). -/
def Obligations.ReferenceClockStopsAndReturns : Prop :=
  (∀ s : State, exec .refclkStopped s = .next { s with refclk := false }) ∧
  (∀ (i : Instr) (s : State), clockedEvent i = true → s.refclk = false → exec i s = .next s) ∧
  (∀ s : State, exec .refclkResumed s = .next (s.withPart (({ s.toPart with refclk := true } : Part).arbitrate)))

/-! ### The receiver -/

/-- R154: what the receiver does with a byte in each of its states; in LENGTH, BODY and CHECK, and for the sync byte, the
gap expiry becomes the byte time plus 5,000 µs. What a byte that completes a frame does beyond ending it is the statement
of R157 below. CLOSED discards the byte: nothing changes. A byte that is taken ends the wait for RXD high (R151). -/
def Obligations.ReceiverActsOnByteByState : Prop :=
  ∀ (s : State) (b : Byte) (high : Nat), s.takesCharacter high = true →
    (s.port.rxState = .hunt → b = 0xB5#8 →
      exec (.byteReceived ⟨b, .high, high⟩) s = .next { s with port := { s.port with
        rxAwaitsHigh := false, rxReadyAt := none, rxState := .length, rxFrame := some { taken := [0xB5#8], expected := 0 },
        gapExpiry := some (s.time + 5000#48) } }) ∧
    (s.port.rxState = .hunt → b ≠ 0xB5#8 →
      exec (.byteReceived ⟨b, .high, high⟩) s = .next { s with port := { s.port with
        rxAwaitsHigh := false, rxReadyAt := none, errors := { s.port.errors with
          noise := if s.port.errors.noise < 65535 then s.port.errors.noise + 1 else s.port.errors.noise } } }) ∧
    (∀ r : RxFrame, s.port.rxState = .length → s.port.rxFrame = some r → 2 ≤ b.toNat → b.toNat ≤ 200 →
      exec (.byteReceived ⟨b, .high, high⟩) s = .next { s with port := { s.port with
        rxAwaitsHigh := false, rxReadyAt := none,
        rxState := .body, rxFrame := some { taken := r.taken ++ [b], expected := b.toNat },
        gapExpiry := some (s.time + 5000#48) } }) ∧
    (s.port.rxState = .length → b.toNat < 2 ∨ 200 < b.toNat →
      exec (.byteReceived ⟨b, .high, high⟩) s = .next { s with port := { s.port with
        rxAwaitsHigh := false, rxReadyAt := none,
        rxState := .hunt, rxFrame := none, gapExpiry := none, errors := { s.port.errors with
          badFrameLength := if s.port.errors.badFrameLength < 65535 then s.port.errors.badFrameLength + 1
            else s.port.errors.badFrameLength } } }) ∧
    (∀ r : RxFrame, s.port.rxState = .body → s.port.rxFrame = some r → 1 < r.expected →
      exec (.byteReceived ⟨b, .high, high⟩) s = .next { s with port := { s.port with
        rxAwaitsHigh := false, rxReadyAt := none, rxFrame := some { taken := r.taken ++ [b], expected := r.expected - 1 },
        gapExpiry := some (s.time + 5000#48) } }) ∧
    (∀ r : RxFrame, s.port.rxState = .body → s.port.rxFrame = some r → r.expected = 1 →
      exec (.byteReceived ⟨b, .high, high⟩) s = .next { s with port := { s.port with
        rxAwaitsHigh := false, rxReadyAt := none, rxState := .check, rxFrame := some { taken := r.taken ++ [b], expected := 2 },
        gapExpiry := some (s.time + 5000#48) } }) ∧
    (∀ r : RxFrame, s.port.rxState = .check → s.port.rxFrame = some r → r.expected = 2 →
      exec (.byteReceived ⟨b, .high, high⟩) s = .next { s with port := { s.port with
        rxAwaitsHigh := false, rxReadyAt := none, rxFrame := some { taken := r.taken ++ [b], expected := 1 },
        gapExpiry := some (s.time + 5000#48) } }) ∧
    (∀ r : RxFrame, s.port.rxState = .check → s.port.rxFrame = some r → r.expected = 1 →
      ∃ t, exec (.byteReceived ⟨b, .high, high⟩) s = .next t ∧ t.port.rxState = .hunt ∧ t.port.rxFrame = none ∧
        t.port.gapExpiry = none) ∧
    (s.port.rxState = .closed → exec (.byteReceived ⟨b, .high, high⟩) s = .next s)

/-- R157: the byte that completes a frame settles it. Bytes whose CRC does not match count in CRC, a good frame that finds
2 frames in the buffer counts in OVERRUN, and any other good frame joins the buffer at its tail. -/
def Obligations.CompleteFrameIsSettled : Prop :=
  ∀ (s : State) (b : Byte) (high : Nat) (taken : List Byte), s.takesCharacter high = true → s.port.rxState = .check →
    s.port.rxFrame = some { taken := taken, expected := 1 } →
    (∀ (covered : List Byte) (first : Byte), taken = 0xB5#8 :: covered ++ [first] → crc covered ≠ first ++ b →
      exec (.byteReceived ⟨b, .high, high⟩) s = .next { s with port := { s.port with
        rxAwaitsHigh := false, rxReadyAt := none,
        rxState := .hunt, rxFrame := none, gapExpiry := none, errors := { s.port.errors with
          crc := if s.port.errors.crc < 65535 then s.port.errors.crc + 1 else s.port.errors.crc } } }) ∧
    (∀ f : Frame, taken ++ [b] = f.wire → 2 ≤ s.port.rxBuffer.length →
      exec (.byteReceived ⟨b, .high, high⟩) s = .next { s with port := { s.port with
        rxAwaitsHigh := false, rxReadyAt := none,
        rxState := .hunt, rxFrame := none, gapExpiry := none, errors := { s.port.errors with
          overrun := if s.port.errors.overrun < 65535 then s.port.errors.overrun + 1 else s.port.errors.overrun } } }) ∧
    (∀ f : Frame, taken ++ [b] = f.wire → s.port.rxBuffer.length < 2 →
      exec (.byteReceived ⟨b, .high, high⟩) s = .next { s with port := { s.port with
        rxAwaitsHigh := false, rxReadyAt := none, rxState := .hunt, rxFrame := none, gapExpiry := none,
        rxBuffer := s.port.rxBuffer ++ [f] } })

/-- DECODE AND ENCODE AGREE for frames: the bytes of any frame of L 2–200, one step each, taken by a receiver in HUNT with
room in the buffer, put exactly that frame into the buffer, however long RXD is high before each byte but the first (R151,
R152, R153, R154, R157). -/
def Obligations.EncodedFrameIsReceived : Prop :=
  ∀ (f : Frame) (s : State) (first : Nat) (later : List Nat), f.payload.length ≤ 198 → s.takesCharacter first = true →
    later.length + 1 = f.wire.length → s.port.rxState = .hunt →
    s.port.rxFrame = none → s.port.gapExpiry = none → s.port.rxBuffer.length < 2 →
    Host.Core.run Sys2Proof.core f.wire.length
        { s with pending := List.zipWith (fun b high => .byteReceived ⟨b, .high, high⟩) f.wire (first :: later) ++ s.pending } =
      .next { s with port := { s.port with
        rxAwaitsHigh := false, rxReadyAt := none, rxBuffer := s.port.rxBuffer ++ [f] } }

/-- R155 and R156: in LENGTH, BODY or CHECK a gap expiry that has been reached abandons the frame and counts GAP; one that has
not, or is not there, does nothing, and in HUNT and CLOSED none has an effect. A
break abandons the frame and counts BREAK once, and counts nothing in CLOSED; while it lasts no character is taken and no
second break counts; BREAK_END ends it. Buffered frames stay. A break lasts over every reset, and while a pin or power-on reset
holds the part BREAK and BREAK_END only keep whether RXD is in one: the model's deduction (log entry 25). R151: after
a break and after every reset the receiver waits for a start bit before which RXD has been high for one character time, ten bit
times; a character under way at that moment, or one that RXD had been high for less before, is not taken, and the wait goes on;
the next that is taken ends it. A character whose stop bit is low is discarded, counted nowhere and moves no gap expiry, and
the next one follows at once. That a character under way is told by its byte time, less than 9.5 bit times after a reset
or 19.5 after a break, is the model's deduction (log entry 9), and that its row carries the stop bit and the time RXD was high
before is its choice (log entry 18). That a step which is not due has no effect is the model's deduction (log entry 5). -/
def Obligations.GapsAndBreaksAbandonFrames : Prop :=
  (∀ (s : State) (t : Time), s.clocked = true →
    s.port.rxState = .length ∨ s.port.rxState = .body ∨ s.port.rxState = .check → s.port.gapExpiry = some t →
    (reached s.time t = true →
      exec .gapExpiry s = .next { s with port := { s.port with
        rxState := .hunt, rxFrame := none, gapExpiry := none, errors := { s.port.errors with
          gap := if s.port.errors.gap < 65535 then s.port.errors.gap + 1 else s.port.errors.gap } } }) ∧
    (reached s.time t = false → exec .gapExpiry s = .next s)) ∧
  (∀ s : State, s.port.gapExpiry = none ∨ s.port.rxState = .hunt ∨ s.port.rxState = .closed →
    exec .gapExpiry s = .next s) ∧
  (∀ s : State, s.clocked = true → s.port.inBreak = false → s.port.rxState ≠ .closed →
    exec .breakSeen s = .next { s with port := { s.port with
      inBreak := true, rxState := .hunt, rxFrame := none, gapExpiry := none, errors := { s.port.errors with
        breaks := if s.port.errors.breaks < 65535 then s.port.errors.breaks + 1 else s.port.errors.breaks } } }) ∧
  (∀ s : State, s.clocked = true → s.port.inBreak = false → s.port.rxState = .closed →
    exec .breakSeen s = .next { s with port := { s.port with inBreak := true } }) ∧
  (∀ s : State, s.port.inBreak = true → exec .breakSeen s = .next s ∧
    ∀ c : RxCharacter, exec (.byteReceived c) s = .next s) ∧
  (∀ s : State, s.resetHold ≠ .none → s.refclk = true → s.port.inBreak = false →
    exec .breakSeen s = .next { s with port := { s.port with inBreak := true } }) ∧
  (∀ s : State, s.port.inBreak = true →
    (s.clocked = true → exec .breakEnd s = .next { s with port := { s.port with
      inBreak := false, rxAwaitsHigh := true, rxReadyAt := some (plus s.time (19500000 / s.port.baud.rate)) } }) ∧
    (s.resetHold ≠ .none → s.refclk = true →
      exec .breakEnd s = .next { s with port := { s.port with inBreak := false } }) ∧
    (s.refclk = false → exec .breakEnd s = .next s)) ∧
  (∀ (s t : State) (straps : BitVec 2) (inputs : BitVec 16),
    exec .pinReset s = .next t ∨ exec .powerOnReset s = .next t ∨ exec (.pinResetCompletion straps inputs) s = .next t ∨
      exec (.powerOnResetCompletion straps inputs) s = .next t ∨ exec (.commandResetExecution inputs) s = .next t →
    t.port.inBreak = s.port.inBreak) ∧
  (∀ (s t : State) (straps : BitVec 2) (inputs : BitVec 16), s.resetHold ≠ .none → t.resetHold = .none →
    exec (.pinResetCompletion straps inputs) s = .next t ∨ exec (.powerOnResetCompletion straps inputs) s = .next t →
    t.port.rxAwaitsHigh = true ∧ t.port.rxReadyAt = some (plus 0#48 (9500000 / t.port.baud.rate))) ∧
  (∀ s : State, s.port.inBreak = false → exec .breakEnd s = .next s) ∧
  (∀ (s : State) (high : Nat), s.takesCharacter high = true ↔ s.clocked = true ∧ s.port.inBreak = false ∧
    (s.port.rxAwaitsHigh = true → 10 * 8000000 ≤ high * s.port.baud.rate) ∧
    ∀ t, s.port.rxReadyAt = some t → reached s.time t = true) ∧
  (∀ (s : State) (c : RxCharacter), s.takesCharacter c.high = false ∨ s.port.rxState = .closed →
    exec (.byteReceived c) s = .next s) ∧
  (∀ (s : State) (b : Byte) (high : Nat), s.takesCharacter high = true → s.port.rxState ≠ .closed →
    exec (.byteReceived ⟨b, .low, high⟩) s = .next { s with port := { s.port with rxAwaitsHigh := false, rxReadyAt := none } }) ∧
  (∀ (s : State) (f : Frame) (inputs : BitVec 16) (u : Time), s.frameDone = some f → f.isResetReply = true →
    u = plus s.time (9500000 / s.port.baud.rate) → ∃ t, exec (.commandResetExecution inputs) s = .next t ∧
      t.port.rxAwaitsHigh = true ∧ (s.port.rxReadyAt = none → t.port.rxReadyAt = some u) ∧
      ∀ x, s.port.rxReadyAt = some x →
        t.port.rxReadyAt = some (if 0 < (x - u).toNat ∧ (x - u).toNat < 2 ^ 47 then x else u))

/-! ### The transmitter -/

/-- R160, R138, R139, R142: when a frame ends, the oldest reply begins; with no reply, the report that R138 names begins,
becomes SENT and starts the timer if no entry was SENT; with neither, the transmitter is IDLE. An IDLE transmitter makes
the same choice at `arbitrate`. The entry named is the first RESEND entry, else the first NEW entry, while the link is UP
and fewer than 8 entries are SENT. A frame of L + 4 bytes has ended once ten bit times per byte have passed since it began, in
whole µs, while the clock runs (R153; the rounding is the model's deduction, log entry 8). Until then, and with no frame in
transmission, TX_FRAME_END and COMMAND_RESET_EXECUTION have no effect; the end of a RESET reply of status OK belongs to
COMMAND_RESET_EXECUTION (R162, R163), and every other end to TX_FRAME_END (no effect: log entry 5). While a frame is in
transmission, and while the clock stands still, `arbitrate` leaves the part as it is: a frame once begun runs to its last CRC
byte (R160, R139), and nothing begins (R30, R44). -/
def Obligations.FrameEndChoosesNextFrame : Prop :=
  (∀ (p : Part) (f : Frame), p.frameDone = some f ↔ p.clocked = true ∧ ∃ began : Time, p.port.tx = .sending f began ∧
    (f.payload.length + 2 + 4) * 10 * 1000000 / (match p.port.baud with
      | .b115200 => 115200 | .b230400 => 230400 | .b460800 => 460800 | .b921600 => 921600) ≤ (p.time - began).toNat) ∧
  (∀ f : Frame, f.isResetReply = true ↔ f.kind = 0x93#8 ∧ f.payload = [0x00#8, 0x00#8]) ∧
  (∀ s : State, s.frameDone = none →
    exec .txFrameEnd s = .next s ∧ ∀ inputs, exec (.commandResetExecution inputs) s = .next s) ∧
  (∀ (s : State) (f : Frame), s.frameDone = some f →
    (f.isResetReply = true → exec .txFrameEnd s = .next s) ∧
    (f.isResetReply = false → ∀ inputs, exec (.commandResetExecution inputs) s = .next s)) ∧
  (∀ (s : State) (f : Frame), s.frameDone = some f → f.isResetReply = false →
    exec .txFrameEnd s =
      .next (s.withPart (({ s.toPart with port := { s.port with tx := .idle } } : Part).arbitrate))) ∧
  (∀ (p : Part) (f : Frame) (rest : List Frame), p.port.tx = .idle → p.clocked = true → p.port.replies = f :: rest →
    p.arbitrate = { p with port := { p.port with tx := .sending f p.time, replies := rest } }) ∧
  (∀ (p : Part) (e : ReportEntry) (pre post : List ReportEntry), p.port.tx = .idle → p.clocked = true →
    p.port.replies = [] → p.reports.link = .up → sentCount p.reports.queue < 8 →
    p.reports.queue = pre ++ e :: post → (∀ x ∈ pre, x.delivery = .sent) → e.delivery ≠ .sent →
    (e.delivery = .new → ∀ x ∈ post, x.delivery ≠ .resend) →
    p.arbitrate = { p with
      port := { p.port with tx := .sending e.frame p.time }
      reports := { p.reports with
        queue := pre ++ { e with delivery := .sent } :: post
        timer := if sentCount p.reports.queue = 0 then some (plus p.time (p.reports.interval * 1000))
          else p.reports.timer } }) ∧
  (∀ p : Part, p.port.tx = .idle → p.port.replies = [] →
    p.reports.link = .lost ∨ 8 ≤ sentCount p.reports.queue ∨ (∀ x ∈ p.reports.queue, x.delivery = .sent) →
    p.arbitrate = p) ∧
  (∀ (p : Part) (f : Frame) (began : Time), p.port.tx = .sending f began → p.arbitrate = p) ∧
  (∀ p : Part, p.clocked = false → p.arbitrate = p) ∧
  (∀ p : Part, p.clocked = true ↔ p.resetHold = .none ∧ p.refclk = true)

/-- R152: a frame has the sync byte, the length L of kind, tag and payload, kind, tag, payload and the CRC with its high
byte first, L + 4 bytes in all. The nine bytes 0x31 to 0x39 have the CRC 0x29B1 (R153, note 1), and the RESTART report has
L 15 (R175). A number stands most significant byte first (section 10). The frame of a report has the kind of its content, tag 0,
the 11-byte header and the content bytes, in this order, with the payload lengths of R175's table. -/
def Obligations.FrameLayoutAndCrc : Prop :=
  (∀ f : Frame, f.payload.length ≤ 198 → ∃ high low : Byte,
    f.wire = [0xB5#8, BitVec.ofNat 8 (f.payload.length + 2), f.kind, f.tag] ++ f.payload ++ [high, low] ∧
    high ++ low = crc ([BitVec.ofNat 8 (f.payload.length + 2), f.kind, f.tag] ++ f.payload) ∧
    f.wire.length = (f.payload.length + 2) + 4) ∧
  crc [0x31#8, 0x32#8, 0x33#8, 0x34#8, 0x35#8, 0x36#8, 0x37#8, 0x38#8, 0x39#8] = 0x29B1#16 ∧
  (∀ (cause : ResetCause) (t : Time), (restartEntry cause t).frame.payload.length + 2 = 15) ∧
  (∀ width v i : Nat, i < width → (beBytes width v)[i]? = some (BitVec.ofNat 8 (v / 256 ^ (width - 1 - i)))) ∧
  (∀ width v : Nat, (beBytes width v).length = width) ∧
  ∀ e : ReportEntry, ∃ (kind : Byte) (header content : List Byte),
    e.frame = { kind := kind, tag := 0x00#8, payload := header ++ content } ∧
    header = beBytes 2 e.seq.toNat ++
      [match e.job with
        | none => 0x00#8
        | some j => BitVec.ofNat 8 (j.val + 1)] ++
      [e.run] ++ beBytes 6 e.time.toNat ++ beBytes 1 e.lost ∧
    header.length = 11 ∧
    (∀ cause revision, e.content = .restart cause revision → kind = 0x40#8 ∧ e.frame.payload.length = 13 ∧
      content = [match cause with
        | .power => 0x01#8 | .pin => 0x02#8 | .command => 0x03#8] ++ [revision]) ∧
    (∀ count, e.content = .progress count → kind = 0x41#8 ∧ e.frame.payload.length = 15 ∧ content = beBytes 4 count) ∧
    (∀ value accepted, e.content = .sample value accepted → kind = 0x42#8 ∧ e.frame.payload.length = 19 ∧
      content = beBytes 4 value ++ beBytes 4 accepted) ∧
    (∀ number merged, e.content = .tick number merged → kind = 0x43#8 ∧ e.frame.payload.length = 16 ∧
      content = beBytes 4 number.toNat ++ beBytes 1 merged) ∧
    (∀ cause final aux outcome, e.content = .ended cause final aux outcome → kind = 0x44#8 ∧ e.frame.payload.length = 22 ∧
      content = [match cause with
          | .limitReached => 0x01#8 | .overflow => 0x02#8 | .highExceeded => 0x03#8 | .lowExceeded => 0x04#8
          | .stall => 0x05#8 | .expired => 0x06#8 | .hostStop => 0x07#8 | .linkedStop => 0x08#8 | .linkLost => 0x09#8] ++
        beBytes 5 final ++ beBytes 4 aux ++
        [match outcome with
          | .none => 0x00#8 | .done => 0x01#8 | .targetBusy => 0x02#8 | .targetIdle => 0x03#8 | .targetFree => 0x04#8
          | .lineBusy => 0x05#8 | .noCells => 0x06#8 | .noRoom => 0x07#8 | .suppressed => 0x08#8])

/-! ### Intakes and replies -/

/-- R159, R162 and R166: a frame is taken exactly when it is the oldest of the receive buffer, fewer than 4 replies wait and
no RESET awaits execution. With no frame to take, no intake has an effect. A frame that is taken is acted on by the row of its
kind and by no other row, and gives exactly one reply, of the command's kind plus 0x80 (0x80 for an unknown kind, with status
UNKNOWN_KIND) and the frame's tag. A reply whose status is not OK has two bytes, and nothing but the buffer and the reply has
changed. THE MODEL'S: an intake that is not possible has no effect (log entry 5); an ACK buffered behind a RESET is not
taken, by R159 and R162, where R149 has ACKs received before the receiver closed taken (log entry 31); an IDLE
transmitter begins the reply before a report that the same intake makes eligible (log entry 32, in `answered`). -/
def Obligations.EveryTakenFrameGetsOneReply : Prop :=
  (∀ (s : State) (f : Frame), s.Takes f ↔
    (∃ rest, s.port.rxBuffer = f :: rest) ∧ s.port.replies.length < 4 ∧ s.port.resetPending = false) ∧
  (∀ s : State, (∀ f, ¬ s.Takes f) → ∀ i ∈ commandRows, exec i s = .next s) ∧
  ∀ (s : State) (f : Frame), s.Takes f →
    (∀ i ∈ commandRows, i ≠ rowOfKind f.kind → exec i s = .next s) ∧
    (isCommandKind f.kind = false →
      exec .unknownKind s = .next (s.withPart
        ((s.dropFrame.appendReply { kind := 0x80#8, tag := f.tag, payload := [0x01#8, 0x00#8] }).arbitrate))) ∧
    (isCommandKind f.kind = true → ∃ (q : Part) (payload : List Byte),
      exec (rowOfKind f.kind) s = .next (s.withPart (q.answered f payload)) ∧
      q.port.replies = s.port.replies ∧ q.port.rxBuffer = s.port.rxBuffer.tail ∧
      (payload.head? = some 0x00#8 ∨ (q = s.dropFrame ∧ payload.length = 2)))

/-- R176: IDENT, LIST and TIME change no state and answer with the layouts of section 10.8; a payload is refused with
BAD_LENGTH. -/
def Obligations.IdentListAndTimeAnswer : Prop :=
  ∀ (s : State) (f : Frame), s.Takes f →
    (f.kind = 0x01#8 → f.payload = [] →
      exec .ident s = .next (s.withPart (s.dropFrame.answered f
        [0x00#8, 0x00#8, 0x32#8, 0x16#8, 0x01#8, 32#8, 24#8, 16#8, 8#8, 64#8, 8#8, 8#8, 2#8, 4#8, 200#8]))) ∧
    (f.kind = 0x0A#8 → f.payload = [] → ∃ body : List Byte,
      body = timeBytes s.time ++
        s.jobs.toList.flatMap (fun b => beBytes 1 b.state.code ++ beBytes 1 b.kindCode ++ beBytes 1 b.run.toNat) ∧
      body.length = 102 ∧
      exec .list s = .next (s.withPart (s.dropFrame.answered f ([0x00#8, 0x00#8] ++ body)))) ∧
    (f.kind = 0x11#8 → f.payload = [] →
      exec .time s = .next (s.withPart (s.dropFrame.answered f ([0x00#8, 0x00#8] ++ beBytes 6 s.time.toNat)))) ∧
    (f.payload ≠ [] →
      (f.kind = 0x01#8 → exec .ident s = .next (s.withPart (s.refused f 0x02#8 0x00#8))) ∧
      (f.kind = 0x0A#8 → exec .list s = .next (s.withPart (s.refused f 0x02#8 0x00#8))) ∧
      (f.kind = 0x11#8 → exec .time s = .next (s.withPart (s.refused f 0x02#8 0x00#8))))

/-- R179: LINKSTAT answers the six counters, the link state, the retry count, the occupancy and the reservations as they
stood, and clears the counters when its flag is set; another flag byte gets BAD_PARAM. RESET answers OK with no body,
closes the receiver and awaits execution (R162). A payload of another length gets BAD_LENGTH (R169). -/
def Obligations.LinkstatAndResetAct : Prop :=
  ∀ (s : State) (f : Frame), s.Takes f →
    (f.kind = 0x12#8 → ∀ flag : Byte, f.payload = [flag] → ∃ body : List Byte, body.length = 16 ∧
      body = beBytes 2 s.port.errors.noise ++ beBytes 2 s.port.errors.badFrameLength ++ beBytes 2 s.port.errors.gap ++
        beBytes 2 s.port.errors.crc ++ beBytes 2 s.port.errors.breaks ++ beBytes 2 s.port.errors.overrun ++
        beBytes 1 s.reports.link.code ++ beBytes 1 s.reports.retry ++ beBytes 1 s.reports.queue.length ++
        beBytes 1 s.reports.reservations ∧
      (flag = 0x00#8 → exec .linkstat s = .next (s.withPart (s.dropFrame.answered f ([0x00#8, 0x00#8] ++ body)))) ∧
      (flag = 0x01#8 → exec .linkstat s = .next (s.withPart
        (({ s.dropFrame with port := { s.dropFrame.port with errors :=
          { noise := 0, badFrameLength := 0, gap := 0, crc := 0, breaks := 0, overrun := 0 } } } : Part).answered f
            ([0x00#8, 0x00#8] ++ body)))) ∧
      (flag ≠ 0x00#8 → flag ≠ 0x01#8 → exec .linkstat s = .next (s.withPart (s.refused f 0x05#8 0x01#8)))) ∧
    (f.kind = 0x12#8 → f.payload.length ≠ 1 → exec .linkstat s = .next (s.withPart (s.refused f 0x02#8 0x00#8))) ∧
    (f.kind = 0x13#8 → f.payload = [] →
      exec .reset s = .next (s.withPart
        (({ s.dropFrame with port := { s.dropFrame.port with
          rxState := .closed, rxFrame := none, gapExpiry := none, resetPending := true } } : Part).answered f
            [0x00#8, 0x00#8]))) ∧
    (f.kind = 0x13#8 → f.payload ≠ [] → exec .reset s = .next (s.withPart (s.refused f 0x02#8 0x00#8)))

/-- R177: LINECFG sets the filter setting of an input line, DRIVE the level of an unowned output line, SENSE reports the
lines; with their refusals, a wrong length among them (R169). -/
def Obligations.LineCommandsAct : Prop :=
  ∀ (s : State) (f : Frame), s.Takes f →
    (f.kind = 0x0E#8 → ∀ line setting : Byte, f.payload = [line, setting] →
      (16 ≤ line.toNat → exec .linecfg s = .next (s.withPart (s.refused f 0x04#8 0x01#8))) ∧
      (line.toNat < 16 → 63 < setting.toNat → exec .linecfg s = .next (s.withPart (s.refused f 0x05#8 0x02#8))) ∧
      (∀ i : InId, line.toNat = i.val → setting.toNat ≤ 63 →
        exec .linecfg s = .next (s.withPart
          (({ s.dropFrame with inputs := s.inputs.set i.val { s.inputs[i] with filter := setting.toNat } } : Part).answered f
            [0x00#8, 0x00#8, line, setting])))) ∧
    (f.kind = 0x0F#8 → ∀ line level : Byte, f.payload = [line, level] →
      (8 ≤ line.toNat → exec .drive s = .next (s.withPart (s.refused f 0x04#8 0x01#8))) ∧
      (line.toNat < 8 → 1 < level.toNat → exec .drive s = .next (s.withPart (s.refused f 0x05#8 0x02#8))) ∧
      (∀ o : OutId, line.toNat = o.val → level.toNat ≤ 1 →
        (∀ k : JobId, s.outputs[o].owner = some k →
          exec .drive s = .next (s.withPart (s.refused f 0x09#8 (BitVec.ofNat 8 (k.val + 1))))) ∧
        (s.outputs[o].owner = none →
          exec .drive s = .next (s.withPart
            ((s.dropFrame.setOutput o { level := levelOfBit (decide (level = 0x01#8)), owner := none }).answered f
              [0x00#8, 0x00#8, line, level, 0x00#8]))))) ∧
    (f.kind = 0x10#8 → f.payload = [] → ∃ filtered changing driven : Nat,
      (∀ i : InId, filtered.testBit i.val = decide (s.inputs[i].filtered = .high)) ∧ filtered < 65536 ∧
      (∀ i : InId, changing.testBit i.val = s.inputs[i].change.isSome) ∧ changing < 65536 ∧
      (∀ o : OutId, driven.testBit o.val = decide (s.outputs[o].level = .high)) ∧ driven < 256 ∧
      exec .sense s = .next (s.withPart (s.dropFrame.answered f ([0x00#8, 0x00#8] ++
        (beBytes 6 s.time.toNat ++ beBytes 2 filtered ++ beBytes 2 changing ++
          s.inputs.toList.flatMap (fun l => beBytes 1 l.filter) ++ beBytes 1 driven ++
          s.outputs.toList.flatMap (fun l => beBytes 1 (ownerNumber l.owner))))))) ∧
    (f.kind = 0x0E#8 → f.payload.length ≠ 2 → exec .linecfg s = .next (s.withPart (s.refused f 0x02#8 0x00#8))) ∧
    (f.kind = 0x0F#8 → f.payload.length ≠ 2 → exec .drive s = .next (s.withPart (s.refused f 0x02#8 0x00#8))) ∧
    (f.kind = 0x10#8 → f.payload ≠ [] → exec .sense s = .next (s.withPart (s.refused f 0x02#8 0x00#8)))

/-- R140 and R141: an ACK of a transmitted entry removes everything through it, sets the retry count to 0 and restarts or
stops the timer; a stale ACK and a bad ACK change nothing. A payload that is not 2 bytes gets BAD_LENGTH (R169). That the reply
of an ACK that opens a full window begins before the report it makes eligible, on an IDLE transmitter, is the model's choice
(log entry 32, in `answered`): R160 lets either be first. -/
def Obligations.AckRemovesOrChangesNothing : Prop :=
  (∀ (s : State) (f : Frame), s.Takes f → f.kind = 0x0B#8 → f.payload.length ≠ 2 →
    exec .ack s = .next (s.withPart (s.refused f 0x02#8 0x00#8))) ∧
  ∀ (s : State) (f : Frame) (n : BitVec 16), s.Takes f → f.kind = 0x0B#8 → f.payload = beBytes 2 n.toNat →
    (∀ (e : ReportEntry) (pre post : List ReportEntry), s.reports.queue = pre ++ e :: post → e.seq = n →
      e.delivery ≠ .new → (∀ x ∈ pre, x.seq ≠ n) →
      exec .ack s = .next (s.withPart
        (({ s.dropFrame with reports := { s.reports with
          queue := post, retry := 0
          timer := if s.reports.link = .up ∧ sentCount post ≠ 0 then some (plus s.time (s.reports.interval * 1000))
            else none } } : Part).answered f
              ([0x00#8, 0x00#8] ++ beBytes 1 (pre.length + 1) ++
                beBytes 2 ((post.map (fun x => x.seq)).headD s.reports.nextSeq).toNat)))) ∧
    ((∀ x ∈ s.reports.queue, x.seq = n → x.delivery = .new) →
      1 ≤ (s.reports.oldestSeq - n).toNat → (s.reports.oldestSeq - n).toNat ≤ 64 →
      exec .ack s = .next (s.withPart (s.dropFrame.answered f
        ([0x00#8, 0x00#8, 0x00#8] ++ beBytes 2 s.reports.oldestSeq.toNat)))) ∧
    ((∀ x ∈ s.reports.queue, x.seq = n → x.delivery = .new) →
      s.reports.oldestSeq = n ∨ 64 < (s.reports.oldestSeq - n).toNat →
      exec .ack s = .next (s.withPart (s.refused f 0x0B#8 0x00#8)))

/-- R146, R147 and R178: RECONNECT makes the link UP, the retry count 0, every SENT entry RESEND and the timer stopped;
LINKCFG replaces its three settings and nothing else, or is refused at the first field that fails. A wrong length gets
BAD_LENGTH (R169). That the reply of a RECONNECT begins before the report it makes eligible, on an IDLE transmitter, is the
model's choice (log entry 32, in `answered`): R160 lets either be first. -/
def Obligations.ReconnectAndLinkcfgAct : Prop :=
  ∀ (s : State) (f : Frame), s.Takes f →
    (f.kind = 0x0C#8 → f.payload = [] →
      exec .reconnect s = .next (s.withPart
        (({ s.dropFrame with reports := { s.reports with
          link := .up, retry := 0, timer := none
          queue := s.reports.queue.map (fun e => if e.delivery = .sent then { e with delivery := .resend } else e) } } :
            Part).answered f ([0x00#8, 0x00#8] ++ beBytes 2 s.reports.oldestSeq.toNat ++
              beBytes 1 s.reports.queue.length ++ beBytes 1 s.reports.reservations)))) ∧
    (f.kind = 0x0D#8 → ∀ (interval : Nat) (limit policy : Byte), interval < 65536 →
      f.payload = beBytes 2 interval ++ [limit, policy] →
      (interval < 10 ∨ 5000 < interval → exec .linkcfg s = .next (s.withPart (s.refused f 0x05#8 0x01#8))) ∧
      (10 ≤ interval → interval ≤ 5000 → limit.toNat = 0 ∨ 15 < limit.toNat →
        exec .linkcfg s = .next (s.withPart (s.refused f 0x05#8 0x02#8))) ∧
      (10 ≤ interval → interval ≤ 5000 → 1 ≤ limit.toNat → limit.toNat ≤ 15 → 2 < policy.toNat →
        exec .linkcfg s = .next (s.withPart (s.refused f 0x05#8 0x03#8))) ∧
      (10 ≤ interval → interval ≤ 5000 → 1 ≤ limit.toNat → limit.toNat ≤ 15 → policy.toNat ≤ 2 →
        exec .linkcfg s = .next (s.withPart
          (({ s.dropFrame with reports := { s.reports with
            interval := interval, retryLimit := limit.toNat
            policy := if policy = 0x00#8 then .carryOn else if policy = 0x01#8 then .holdAll else .stopAll } } :
              Part).answered f ([0x00#8, 0x00#8] ++ beBytes 2 interval ++ [limit, policy]))))) ∧
    (f.kind = 0x0C#8 → f.payload ≠ [] → exec .reconnect s = .next (s.withPart (s.refused f 0x02#8 0x00#8))) ∧
    (f.kind = 0x0D#8 → f.payload.length ≠ 4 → exec .linkcfg s = .next (s.withPart (s.refused f 0x02#8 0x00#8)))

/-! ### DEFINE -/

/-- DECODE AND ENCODE AGREE for definitions: the DEFINE payload that R170 lays out for any allowed definition, of any kind,
installs exactly that definition in a FREE, DEFINED or ENDED job, whatever the fields hold that R170 ignores: DEFINED, run 0,
lost 0, progress at its start values and nothing held (R6). That the RUNNING entry time starts at 0 is the model's deduction
(log entry 19). -/
def Obligations.DefineInstallsEncodedDefinition : Prop :=
  ∀ (s : State) (f : Frame) (j : JobId) (d : Definition) (x : Fill), s.Takes f → f.kind = 0x02#8 → f.payload = d.encode x j →
    d.allowed = true → s.jobs[j].state = .free ∨ s.jobs[j].state = .defined ∨ s.jobs[j].state = .ended →
    ∃ q : Part,
      exec .define s = .next (s.withPart (q.answered f
        ([0x00#8, 0x00#8, BitVec.ofNat 8 (j.val + 1), 0x01#8, BitVec.ofNat 8 d.work.kind.code, 0x00#8, 0x00#8] ++
          List.replicate 18 0x00#8))) ∧
      q.jobs[j] = { state := .defined, defn := some { d with entryTime := 0#48, work := d.work.fresh }, run := 0#8, cells := [],
                    staged := none, result := none, lost := 0, reservation := false } ∧
      (∀ k : JobId, k ≠ j → q.jobs[k] = s.jobs[k]) ∧ { q with jobs := s.jobs } = s.dropFrame

/-- R5: the checks of a DEFINE whose length and job number have passed. `lines` are the line fields in payload order and
`values` the value fields in field order, each a field index with whether the field fails. The first line field that fails
gives BAD_LINE; with none, a live job gives WRONG_STATE; then the first value field that fails gives BAD_PARAM. -/
def Sys2Proof.Machine.State.DefineRefused (s : State) (f : Frame) (j : JobId) (lines values : List (Nat × Bool)) : Prop :=
  (∀ pre index post, lines = pre ++ (index, true) :: post → (∀ x ∈ pre, x.2 = false) →
    exec .define s = .next (s.withPart (s.refused f 0x04#8 (BitVec.ofNat 8 index)))) ∧
  ((∀ x ∈ lines, x.2 = false) →
    (s.jobs[j].state.live = true → exec .define s = .next (s.withPart (s.refused f 0x06#8 0x00#8))) ∧
    (s.jobs[j].state.live = false → ∀ pre index post, values = pre ++ (index, true) :: post → (∀ x ∈ pre, x.2 = false) →
      exec .define s = .next (s.withPart (s.refused f 0x05#8 (BitVec.ofNat 8 index)))))

/-- R7 and R170: the line fields among the nine common fields. -/
def Sys2Proof.Machine.commonLines (b3 b4 b8 : Byte) : List (Nat × Bool) :=
  [(4, decide (b3 = 0x02#8 ∧ 16 ≤ b4.toNat)), (8, decide (8 ≤ b8.toNat ∧ b8 ≠ 0xFF#8))]

/-- R7 and R170: the value fields among the nine common fields, `refused` saying whether the kind refuses the output line
field. -/
def Sys2Proof.Machine.commonValues (b3 b5 b6 b7 b8 b9 : Byte) (refused : Bool) : List (Nat × Bool) :=
  [(3, decide (2 < b3.toNat)), (5, decide (b3 = 0x02#8 ∧ b5 ≠ 0x01#8 ∧ b5 ≠ 0x02#8)), (6, decide (2 < b6.toNat)),
   (7, decide (b6 ≠ 0x00#8 ∧ (b7 = 0x00#8 ∨ 32 < b7.toNat))), (8, refused),
   (9, decide (b8 ≠ 0xFF#8 ∧ 1 < b9.toNat))]

/-- R5, R6, R7, R169 and R170, with R46, R61, R85, R91, R101 and R110: DEFINE checks the length, then the job number, then the
line fields in payload order, then the state, then the values in field order; the first that fails gives the reply and
nothing changes. The line and value fields are given for each kind, and for a kind byte that names no kind. -/
def Obligations.DefineChecksInOrder : Prop :=
  ∀ (s : State) (f : Frame), s.Takes f → f.kind = 0x02#8 →
    (f.payload.length < 9 → exec .define s = .next (s.withPart (s.refused f 0x02#8 0x00#8))) ∧
    ∀ (b1 b2 b3 b4 b5 b6 b7 b8 b9 : Byte) (block : List Byte),
      f.payload = [b1, b2, b3, b4, b5, b6, b7, b8, b9] ++ block →
      (∀ k : JobKind, JobKind.ofCode b2.toNat = some k →
        f.payload.length ≠ (match k with
          | .count => 20 | .measure => 26 | .delay => 13 | .tick => 15 | .wave => 17 | .echo => 19) →
        exec .define s = .next (s.withPart (s.refused f 0x02#8 0x00#8))) ∧
      ((∀ k : JobKind, JobKind.ofCode b2.toNat = some k →
        f.payload.length = (match k with
          | .count => 20 | .measure => 26 | .delay => 13 | .tick => 15 | .wave => 17 | .echo => 19)) →
        b1.toNat = 0 ∨ 32 < b1.toNat → exec .define s = .next (s.withPart (s.refused f 0x03#8 0x00#8))) ∧
      ∀ j : JobId, b1.toNat = j.val + 1 →
        (JobKind.ofCode b2.toNat = none → s.DefineRefused f j (commonLines b3 b4 b8) [(2, true)]) ∧
        (∀ (source edge width gate level : Byte) (limit step : Nat), b2 = 0x01#8 → limit < 2 ^ 32 → step < 2 ^ 16 →
          block = [source, edge, width, gate, level] ++ beBytes 4 limit ++ beBytes 2 step →
          s.DefineRefused f j
            (commonLines b3 b4 b8 ++
              [(10, decide (16 ≤ source.toNat)), (13, decide (16 ≤ gate.toNat ∧ gate ≠ 0xFF#8))])
            (commonValues b3 b5 b6 b7 b8 b9 (decide (b8 ≠ 0xFF#8)) ++
              [(11, decide (edge.toNat = 0 ∨ 3 < edge.toNat)), (12, decide (width ≠ 0x10#8 ∧ width ≠ 0x20#8)),
               (13, decide (gate ≠ 0xFF#8 ∧ gate = source)), (14, decide (gate ≠ 0xFF#8 ∧ 1 < level.toNat)),
               (15, decide (width = 0x10#8 ∧ 65535 < limit))])) ∧
        (∀ (source mode rate : Byte) (window low high : Nat) (stall report : Byte), b2 = 0x02#8 → window < 2 ^ 32 →
          low < 2 ^ 32 → high < 2 ^ 32 →
          block = [source, mode, rate] ++ beBytes 4 window ++ beBytes 4 low ++ beBytes 4 high ++ [stall, report] →
          s.DefineRefused f j
            (commonLines b3 b4 b8 ++ [(10, decide (16 ≤ source.toNat))])
            (commonValues b3 b5 b6 b7 b8 b9 (decide (b8 ≠ 0xFF#8)) ++
              [(11, decide (mode.toNat = 0 ∨ 4 < mode.toNat)),
               (12, decide (mode = 0x04#8 ∧ (rate.toNat = 0 ∨ 3 < rate.toNat))),
               (13, decide ((mode = 0x04#8 ∧ (window < 1000 ∨ 10000000 < window)) ∨ (mode ≠ 0x04#8 ∧ window ≠ 0))),
               (15, decide (low ≠ 0 ∧ high ≠ 0 ∧ high < low)),
               (16, decide (1 < stall.toNat ∨ (stall = 0x01#8 ∧ (mode = 0x04#8 ∨ high = 0))))])) ∧
        (∀ duration : Nat, b2 = 0x03#8 → duration < 2 ^ 32 → block = beBytes 4 duration →
          s.DefineRefused f j (commonLines b3 b4 b8)
            (commonValues b3 b5 b6 b7 b8 b9 false ++ [(10, decide (duration = 0))])) ∧
        (∀ period limit : Nat, b2 = 0x04#8 → period < 2 ^ 32 → limit < 2 ^ 16 →
          block = beBytes 4 period ++ beBytes 2 limit →
          s.DefineRefused f j (commonLines b3 b4 b8)
            (commonValues b3 b5 b6 b7 b8 b9 (decide (b8 ≠ 0xFF#8)) ++ [(10, decide (period < 10))])) ∧
        (∀ period width limit : Nat, b2 = 0x05#8 → period < 2 ^ 24 → width < 2 ^ 24 → limit < 2 ^ 16 →
          block = beBytes 3 period ++ beBytes 3 width ++ beBytes 2 limit →
          s.DefineRefused f j (commonLines b3 b4 b8)
            (commonValues b3 b5 b6 b7 b8 b9 (decide (b8 = 0xFF#8)) ++
              [(10, decide (period < 10)), (11, decide (width = 0 ∨ period ≤ width))])) ∧
        (∀ (source edge : Byte) (delay width : Nat) (policy : Byte) (limit : Nat), b2 = 0x06#8 → delay < 2 ^ 24 →
          width < 2 ^ 16 → limit < 2 ^ 16 →
          block = [source, edge] ++ beBytes 3 delay ++ beBytes 2 width ++ [policy] ++ beBytes 2 limit →
          s.DefineRefused f j
            (commonLines b3 b4 b8 ++ [(10, decide (16 ≤ source.toNat))])
            (commonValues b3 b5 b6 b7 b8 b9 (decide (b8 = 0xFF#8)) ++
              [(11, decide (edge ≠ 0x01#8 ∧ edge ≠ 0x02#8)), (13, decide (width = 0)),
               (14, decide (policy.toNat = 0 ∨ 3 < policy.toNat))]))

/-! ### START -/

/-- R9: the claims of a START are checked in order, output line, cells, reservation; the first that fails gives LINE_BUSY with
the owner, NO_CELLS or NO_ROOM, and nothing else changes. -/
def Obligations.StartClaimsFailInOrder : Prop :=
  ∀ (s : State) (f : Frame) (j : JobId) (d : Definition), s.Takes f → f.kind = 0x03#8 →
    f.payload = [BitVec.ofNat 8 (j.val + 1)] → s.jobs[j].state = .defined ∨ s.jobs[j].state = .ended →
    s.jobs[j].defn = some d →
    (∀ (u : OutputUse) (k : JobId), d.output = some u → s.outputs[u.line].owner = some k → k ≠ j →
      exec .start s = .next (s.withPart (s.refused f 0x09#8 (BitVec.ofNat 8 (k.val + 1))))) ∧
    ((∀ (u : OutputUse) (k : JobId), d.output = some u → s.outputs[u.line].owner = some k → k = j) →
      ((List.finRange 24).countP (fun c => s.cells[c].owner.isNone) < d.work.cellsNeeded →
        exec .start s = .next (s.withPart (s.refused f 0x08#8 0x00#8))) ∧
      (d.work.cellsNeeded ≤ (List.finRange 24).countP (fun c => s.cells[c].owner.isNone) →
        64 ≤ s.reports.queue.length + s.reports.reservations →
        exec .start s = .next (s.withPart (s.refused f 0x0A#8 0x00#8))))

/-- R8, R9, R10 and R23: a START whose claims all hold grants them together (the line at the idle level, the lowest-numbered
free cells with count 0, one reservation), increments the run, sets the progress to its start values and discards the result;
the job is then ARMED, or enters RUNNING when its start mode is IMMEDIATE. The RUNNING entry time starts at 0, the model's
deduction (log entry 19), and the job's reports in the queue are marked as admitted before this start, by a flag that is the
model's own (log entry 20, for R93). Nothing else changes. -/
def Obligations.StartGrantsAllClaims : Prop :=
  ∀ (s : State) (f : Frame) (j : JobId) (d : Definition), s.Takes f → f.kind = 0x03#8 →
    f.payload = [BitVec.ofNat 8 (j.val + 1)] → s.jobs[j].state = .defined ∨ s.jobs[j].state = .ended →
    s.jobs[j].defn = some d →
    (∀ (u : OutputUse) (k : JobId), d.output = some u → s.outputs[u.line].owner = some k → k = j) →
    d.work.cellsNeeded ≤ (List.finRange 24).countP (fun c => s.cells[c].owner.isNone) →
    s.reports.queue.length + s.reports.reservations < 64 →
    ∃ (q r : Part) (cs : List CellId),
      r = (if d.startMode = .immediate then q.enterRunning j s.time else q.setState j .armed) ∧
      exec .start s = .next (s.withPart (r.answered f ([0x00#8, 0x00#8] ++ r.summary j false))) ∧
      cs = ((List.finRange 24).filter (fun c => s.cells[c].owner.isNone)).take d.work.cellsNeeded ∧
      q.jobs[j] = { s.jobs[j] with
        run := s.jobs[j].run + 1#8, cells := cs, result := none, reservation := true,
        defn := some { d with entryTime := 0#48, work := d.work.fresh } } ∧
      (∀ k : JobId, k ≠ j → q.jobs[k] = s.jobs[k]) ∧
      (∀ c : CellId, q.cells[c] =
        if c ∈ cs then { owner := some j, count := 0#16, phase := none } else s.cells[c]) ∧
      (∀ u : OutputUse, d.output = some u → q.outputs[u.line] = { level := u.idle, owner := some j }) ∧
      (∀ o : OutId, (∀ u : OutputUse, d.output = some u → u.line ≠ o) → q.outputs[o] = s.outputs[o]) ∧
      q.reports = { s.reports with
        reservations := s.reports.reservations + 1
        queue := s.reports.queue.map (fun e => if e.job = some j then { e with thisStart := false } else e) } ∧
      { q with jobs := s.jobs, cells := s.cells, outputs := s.outputs, reports := s.reports } = s.dropFrame

/-! ### STOP, HOLD, RESUME, ALTER -/

/-- An ending by a command at the present device time: `q` is the part after it, cascade and all, and `r` the result, with the
outcome that the job's END report carries. It stands in the record unless the ending has started the job again (R128,
R130). -/
def Sys2Proof.Machine.Part.EndsWith (p q : Part) (j : JobId) (cause : EndCause) (r : Result) : Prop :=
  q = p.endJob j cause p.time 0 ∧
  (p.endSteps j cause p.time 0).jobs[j].result = some { r with outcome := .none } ∧
  (∃ e ∈ q.reports.queue, e.seq = p.reports.nextSeq ∧ e.job = some j ∧
    e.content = .ended r.cause r.final r.aux r.outcome) ∧
  (q.jobs[j].result = some r ∨ q.jobs[j].state = .running)

/-- R172: the summary that reports a job ENDED with the result `r` of the run that has ended: no reservation, nothing
staged. -/
def Sys2Proof.Machine.endedSummary (j : JobId) (kind : JobKind) (run : BitVec 8) (r : Result) : List Byte :=
  [BitVec.ofNat 8 (j.val + 1), 0x06#8, BitVec.ofNat 8 kind.code, run, 0x00#8] ++ List.replicate 7 0x00#8 ++
    beBytes 1 r.cause.code ++ beBytes 5 r.final ++ beBytes 4 r.aux ++ beBytes 1 r.outcome.code

/-- R12, R13, R14, R18, R27, R118, R128 and R172: STOP ends a live job at once with HOST_STOP at the present device time, and the
reply reports it ENDED with the result, except that with finish set a RUNNING TICK or WAVE job, and a RUNNING ECHO job with a
pulse pending or in progress, enters STOPPING without its staged alteration; STOPPING refuses a second finish. A finish byte
outside its codes is refused once the state has passed (R171); that a STOPPING job passes the state check for it is the
model's choice (log entry 7). That the reply reports the ended run also where the ending has started the job again, when R5
and R166 would show it RUNNING, is the model's deduction (log entry 30); that the reply begins before the END report which the
same intake admits, on an IDLE transmitter, is its choice (log entry 32, in `answered`): R160 lets either be first. That a STOP
which follows, in one microsecond, an ending that has started the job again ends the new run, where an example of R22 has
WRONG_STATE, is its deduction (log entry 38). -/
def Obligations.StopEndsOrLetsFinish : Prop :=
  ∀ (s : State) (f : Frame) (j : JobId) (d : Definition) (finish : Byte), s.Takes f → f.kind = 0x04#8 →
    f.payload = [BitVec.ofNat 8 (j.val + 1), finish] → s.jobs[j].defn = some d → s.jobs[j].state.live = true →
    (finish = 0x00#8 ∨
      (finish = 0x01#8 ∧ (s.jobs[j].state = .armed ∨ s.jobs[j].state = .held ∨
        (s.jobs[j].state = .running ∧ (d.work.kind = .count ∨ d.work.kind = .measure ∨ d.work.kind = .delay ∨
          ∃ e g, d.work = .echo e g ∧ g.pendingList = [] ∧ g.pulse = none)))) →
      ∃ (q : Part) (r : Result), s.dropFrame.EndsWith q j .hostStop r ∧
        exec .stop s = .next (s.withPart (q.answered f
          ([0x00#8, 0x00#8] ++ endedSummary j d.work.kind s.jobs[j].run r)))) ∧
    (finish = 0x01#8 → s.jobs[j].state = .running → d.work.kind = .tick ∨ d.work.kind = .wave ∨
        (∃ e g, d.work = .echo e g ∧ (g.pendingList ≠ [] ∨ g.pulse ≠ none)) →
      ∃ q : Part, q = s.dropFrame.setJob j { s.jobs[j] with state := .stopping, staged := none } ∧
        exec .stop s = .next (s.withPart (q.answered f ([0x00#8, 0x00#8] ++ q.summary j false)))) ∧
    (finish = 0x01#8 → s.jobs[j].state = .stopping → exec .stop s = .next (s.withPart (s.refused f 0x06#8 0x00#8))) ∧
    (1 < finish.toNat → exec .stop s = .next (s.withPart (s.refused f 0x05#8 0x02#8)))

/-- R15, R54, R73, R88, R95, R105 and R117: HOLD moves a RUNNING job into HELD with its owned line at idle, its schedule entry
removed and its cell's phase abandoned; what it keeps and what it abandons of its progress goes by kind. Nothing else
changes. -/
def Obligations.HoldKeepsAndAbandonsByKind : Prop :=
  ∀ (s : State) (f : Frame) (j : JobId) (d : Definition), s.Takes f → f.kind = 0x05#8 →
    f.payload = [BitVec.ofNat 8 (j.val + 1)] → s.jobs[j].state = .running → s.jobs[j].defn = some d →
    ∃ (q : Part) (w : Work),
      exec .hold s = .next (s.withPart (q.answered f ([0x00#8, 0x00#8] ++ q.summary j false))) ∧
      q.jobs[j] = { s.jobs[j] with state := .held, defn := some { d with work := w } } ∧
      (∀ k : JobId, k ≠ j → q.jobs[k] = s.jobs[k]) ∧
      q.schedule = s.schedule.filter (fun e => decide (e.job ≠ j)) ∧
      (∀ u : OutputUse, d.output = some u → s.outputs[u.line].owner = some j →
        q.outputs[u.line] = { level := u.idle, owner := some j }) ∧
      (∀ o : OutId, (∀ u : OutputUse, d.output = some u → u.line = o → s.outputs[o].owner ≠ some j) →
        q.outputs[o] = s.outputs[o]) ∧
      (∀ c : CellId, s.jobs[j].cells.head? = some c → q.cells[c] = { s.cells[c] with phase := none }) ∧
      (∀ c : CellId, s.jobs[j].cells.head? ≠ some c → q.cells[c] = s.cells[c]) ∧
      { q with jobs := s.jobs, schedule := s.schedule, outputs := s.outputs, cells := s.cells } = s.dropFrame ∧
      (∀ c g, d.work = .count c g → w = .count c g) ∧
      (∀ m g, d.work = .measure m g → w = .measure m { g with interval := none, stallRef := none, windowStart := none }) ∧
      (∀ k g e, d.work = .delay k g → s.schedule.find? (fun x => decide (x.job = j)) = some e →
        w = .delay k { remaining := if reached s.time e.due then 0 else (e.due - s.time).toNat }) ∧
      (∀ k g e, d.work = .tick k g → s.schedule.find? (fun x => decide (x.job = j)) = some e →
        w = .tick k { g with remaining := if reached s.time e.due then 0 else (e.due - s.time).toNat }) ∧
      (∀ v g, d.work = .wave v g → w = .wave v { g with phase := none, periodStart := none, turnsLeft := 0 }) ∧
      (∀ x g, d.work = .echo x g → w = .echo x { g with
        pendingList := [], pulse := none
        missed := min 4294967295 (g.missed + g.pendingList.length)
        cut := min 4294967295 (g.cut + if g.pulse.isSome then 1 else 0) })

/-- R16, R74, R88, R95, R105 and R117: RESUME moves a HELD job into RUNNING, its kind going on from the present device time:
DELAY and TICK place their entry after the saved remaining time, DELAY with its line active again; PERIOD with stall places a
stall deadline; RATE starts a window; WAVE begins a period with a staged pair applied; the others wait. The RUNNING entry time
stays. That a WAVE phase begins with its whole turns of 65,536 µs left, the length divided by 65,536 and rounded down, is the
model's deduction (log entry 23). -/
def Obligations.ResumeGoesOnByKind : Prop :=
  ∀ (s : State) (f : Frame) (j : JobId) (d : Definition), s.Takes f → f.kind = 0x06#8 →
    f.payload = [BitVec.ofNat 8 (j.val + 1)] → s.jobs[j].state = .held → s.jobs[j].defn = some d →
    ∃ (p q : Part), p = s.dropFrame.setJob j { s.jobs[j] with state := .running } ∧
      exec .resume s = .next (s.withPart (q.answered f ([0x00#8, 0x00#8] ++ q.summary j false))) ∧
      (∃ d', q.jobs[j].defn = some d' ∧ d'.entryTime = d.entryTime) ∧
      (d.work.kind = .count ∨ d.work.kind = .echo → q = p) ∧
      (∀ k g, d.work = .delay k g → q = (p.place j .expiry (plus s.time g.remaining)).driveActive j) ∧
      (∀ k g, d.work = .tick k g → q = p.place j .tick (plus s.time g.remaining)) ∧
      (∀ m g, d.work = .measure m g → m.mode = .high ∨ m.mode = .low ∨ (m.mode = .period ∧ m.stall = false) → q = p) ∧
      (∀ m g, d.work = .measure m g → m.mode = .period → m.stall = true →
        q = (p.setWork j (.measure m { g with stallRef := some s.time })).place j .stall (plus s.time (m.highLimit + 1))) ∧
      (∀ m g edge window, d.work = .measure m g → m.mode = .rate edge window →
        q = ((p.setWork j (.measure m { g with windowStart := some s.time })).zeroCount j).place j .window
          (plus s.time window)) ∧
      (∀ v g, d.work = .wave v g →
        (∀ period width, s.jobs[j].staged = some (.pair period width) →
          q = (((p.setStaged j none).setWork j (.wave { v with period := period, width := width }
            { g with phase := some .active, periodStart := some s.time, turnsLeft := width / 65536 })).driveActive
              j).setPhase j (some { start := s.time, length := width })) ∧
        (s.jobs[j].staged = none →
          q = ((p.setWork j (.wave v
            { g with phase := some .active, periodStart := some s.time, turnsLeft := v.width / 65536 })).driveActive
              j).setPhase j (some { start := s.time, length := v.width })))

/-- R17, R18, R55, R56, R75, R76, R96, R104, R116 and R171: ALTER of an ARMED, RUNNING or HELD job. COUNT takes its limit and
step at once and ends with LIMIT_REACHED when the limit is at or below its count; MEASURE takes its limits and interval at
once and recomputes a STALL entry, ending with STALL when that is already due; TICK and WAVE stage, or replace their
parameters in ARMED; ECHO takes its delay and width at once, so for every edge delivered afterwards, by R116 against R18: the
model's deduction (log entry 36). An ALTER that ends its job reports it ENDED with the result (R18,
R27, R128, R172), also where the ending has started the job again: the model's deduction (log entry 30). That its reply begins
before the END report which the same intake admits, on an IDLE transmitter, is the model's choice (log entry 32, in
`answered`): R160 lets either be first. The refusals of values and of the kind change nothing. -/
def Obligations.AlterActsByKind : Prop :=
  ∀ (s : State) (f : Frame) (j : JobId) (d : Definition), s.Takes f → f.kind = 0x07#8 →
    s.jobs[j].defn = some d →
    s.jobs[j].state = .armed ∨ s.jobs[j].state = .running ∨ s.jobs[j].state = .held →
    (∀ c g limit step, d.work = .count c g → limit ≤ 4294967295 → step ≤ 65535 →
      f.payload = [BitVec.ofNat 8 (j.val + 1), 0x01#8] ++ beBytes 4 limit ++ beBytes 2 step →
      (c.width.largest < limit → exec .alter s = .next (s.withPart (s.refused f 0x05#8 0x03#8))) ∧
      (limit ≤ c.width.largest → ∃ q : Part,
        q = s.dropFrame.setWork j (.count { c with limit := limit, step := step } g) ∧
        (s.jobs[j].state = .armed ∨ limit = 0 ∨ s.countOf j < limit →
          exec .alter s = .next (s.withPart (q.answered f ([0x00#8, 0x00#8] ++ q.summary j false)))) ∧
        (s.jobs[j].state ≠ .armed → limit ≠ 0 → limit ≤ s.countOf j →
          ∃ (t : Part) (r : Result), q.EndsWith t j .limitReached r ∧
            exec .alter s = .next (s.withPart (t.answered f
              ([0x00#8, 0x00#8] ++ endedSummary j .count s.jobs[j].run r)))))) ∧
    (∀ m g low high report, d.work = .measure m g → low ≤ 4294967295 → high ≤ 4294967295 → report ≤ 255 →
      f.payload = [BitVec.ofNat 8 (j.val + 1), 0x02#8] ++ beBytes 4 low ++ beBytes 4 high ++ beBytes 1 report →
      ((low ≠ 0 ∧ high ≠ 0 ∧ high < low) ∨ (m.stall = true ∧ high = 0) →
        exec .alter s = .next (s.withPart (s.refused f 0x05#8 0x04#8))) ∧
      (low = 0 ∨ high = 0 ∨ low ≤ high → m.stall = false ∨ high ≠ 0 → ∃ q : Part,
        q = s.dropFrame.setWork j (.measure { m with lowLimit := low, highLimit := high, reportInterval := report }
          { g with sinceReport := if report = 0 then 0 else g.sinceReport }) ∧
        ((∀ e ∈ s.schedule, e.job = j → e.purpose ≠ .stall) →
          exec .alter s = .next (s.withPart (q.answered f ([0x00#8, 0x00#8] ++ q.summary j false)))) ∧
        (∀ e ref t, s.schedule.find? (fun x => decide (x.job = j)) = some e → e.purpose = .stall →
          (g.interval.map (fun i => i.openedAt)).or g.stallRef = some ref → t = plus ref (high + 1) →
          (reached s.time t = false → ∃ u : Part, u = q.place j .stall t ∧
            exec .alter s = .next (s.withPart (u.answered f ([0x00#8, 0x00#8] ++ u.summary j false)))) ∧
          (reached s.time t = true → ∃ (u : Part) (r : Result), q.EndsWith u j .stall r ∧
            exec .alter s = .next (s.withPart (u.answered f
              ([0x00#8, 0x00#8] ++ endedSummary j .measure s.jobs[j].run r))))))) ∧
    (∀ k g period, d.work = .tick k g → period ≤ 4294967295 →
      f.payload = [BitVec.ofNat 8 (j.val + 1), 0x04#8] ++ beBytes 4 period →
      (period < 10 → exec .alter s = .next (s.withPart (s.refused f 0x05#8 0x03#8))) ∧
      (10 ≤ period → ∃ q : Part,
        q = (if s.jobs[j].state = .armed then s.dropFrame.setWork j (.tick { k with period := period } g)
             else s.dropFrame.setStaged j (some (.period period))) ∧
        exec .alter s = .next (s.withPart (q.answered f ([0x00#8, 0x00#8] ++
          q.summary j (decide (s.jobs[j].state ≠ .armed) && s.jobs[j].staged.isSome)))))) ∧
    (∀ v g period width, d.work = .wave v g → period ≤ 16777215 → width ≤ 16777215 →
      f.payload = [BitVec.ofNat 8 (j.val + 1), 0x05#8] ++ beBytes 3 period ++ beBytes 3 width →
      (period < 10 → exec .alter s = .next (s.withPart (s.refused f 0x05#8 0x03#8))) ∧
      (10 ≤ period → width = 0 ∨ period ≤ width → exec .alter s = .next (s.withPart (s.refused f 0x05#8 0x04#8))) ∧
      (10 ≤ period → width ≠ 0 → width < period → ∃ q : Part,
        q = (if s.jobs[j].state = .armed then s.dropFrame.setWork j (.wave { v with period := period, width := width } g)
             else s.dropFrame.setStaged j (some (.pair period width))) ∧
        exec .alter s = .next (s.withPart (q.answered f ([0x00#8, 0x00#8] ++
          q.summary j (decide (s.jobs[j].state ≠ .armed) && s.jobs[j].staged.isSome)))))) ∧
    (∀ x g delay width, d.work = .echo x g → delay ≤ 16777215 → width ≤ 65535 →
      f.payload = [BitVec.ofNat 8 (j.val + 1), 0x06#8] ++ beBytes 3 delay ++ beBytes 2 width →
      (width = 0 → exec .alter s = .next (s.withPart (s.refused f 0x05#8 0x04#8))) ∧
      (width ≠ 0 → ∃ q : Part, q = s.dropFrame.setWork j (.echo { x with delay := delay, width := width } g) ∧
        exec .alter s = .next (s.withPart (q.answered f ([0x00#8, 0x00#8] ++ q.summary j false))))) ∧
    (∀ (code : Byte) (values : List Byte), f.payload = [BitVec.ofNat 8 (j.val + 1), code] ++ values →
      d.work.kind = .delay ∨ code.toNat ≠ d.work.kind.code →
      (code = 0x01#8 → values.length = 6) → (code = 0x02#8 → values.length = 9) → (code = 0x04#8 → values.length = 4) →
      (code = 0x05#8 → values.length = 6) → (code = 0x06#8 → values.length = 5) →
      exec .alter s = .next (s.withPart (s.refused f 0x07#8 0x00#8)))

/-! ### READ, DELETE and the refusals by state -/

/-- The time `left` that READ shows from the snapshot to a time `due`: their difference while `due` lies ahead, 0 at `due`, and
a free value of at most `largest` when `due` lies before the snapshot (log entry 2). -/
def Sys2Proof.Machine.State.LeftUntil (s : State) (due : Time) (largest left : Nat) : Prop :=
  (reached s.time due = false → left = (due - s.time).toNat) ∧ (s.time = due → left = 0) ∧
  (reached s.time due = true → left ≤ largest)

/-- R19, R58, R78, R90, R98, R108, R120, R173 and R174: READ of a job in any state but FREE completes, changes nothing and
answers the common part of 38 bytes and the kind part, both field by field. For a STALL entry, the end of a RATE window, of a
WAVE phase or of an ECHO pulse that lies before the snapshot, R78, R108 and R120 state no time left: a free value within the
range of the field (log entry 2). That an interval of 2^33 µs and more shows 4,294,967,295, and that the time elapsed in a WAVE
period is a difference modulo 2^48, are the model's deductions (log entries 14 and 22). -/
def Obligations.ReadAnswersSnapshot : Prop :=
  ∀ (s : State) (f : Frame) (j : JobId) (d : Definition), s.Takes f → f.kind = 0x08#8 →
    f.payload = [BitVec.ofNat 8 (j.val + 1)] → s.jobs[j].state ≠ .free → s.jobs[j].defn = some d →
    ∃ commonPart kindPart : List Byte,
      exec .read s = .next (s.withPart (s.dropFrame.answered f ([0x00#8, 0x00#8] ++ commonPart ++ kindPart))) ∧
      commonPart = beBytes 6 s.time.toNat ++ beBytes 1 (j.val + 1) ++ beBytes 1 s.jobs[j].state.code ++
        beBytes 1 d.work.kind.code ++ beBytes 1 s.jobs[j].run.toNat ++ d.startMode.encode Fill.blank ++
        encodeEndAction Fill.blank d.endAction ++ encodeOutput Fill.blank d.output ++
        (match s.jobs[j].cells with
          | [] => [0xFF#8, 0xFF#8]
          | [low] => beBytes 1 low.val ++ [0xFF#8]
          | low :: high :: _ => beBytes 1 low.val ++ beBytes 1 high.val) ++
        beBytes 1 s.jobs[j].lost ++ yesNo s.jobs[j].reservation ++
        (match s.jobs[j].result with
          | none => List.replicate 17 0x00#8
          | some r => beBytes 1 r.cause.code ++ beBytes 5 r.final ++ beBytes 4 r.aux ++ beBytes 1 r.outcome.code ++
              beBytes 6 r.endTime.toNat) ∧
      commonPart.length = 38 ∧
      (∀ c g, d.work = .count c g → kindPart.length = 15 ∧
        kindPart = beBytes 4 (if s.jobs[j].state.live then s.countOf j else g.count) ++ beBytes 4 g.blocked ++
          yesNo (match c.gate with
            | none => true
            | some x => decide (s.inputs[x.line].filtered = x.level)) ++
          beBytes 4 c.limit ++ beBytes 2 c.step) ∧
      (∀ m g, d.work = .measure m g → kindPart.length = 42 ∧ ∃ progress stall : List Byte,
        kindPart = [match m.mode with
            | .period => 0x01#8 | .high => 0x02#8 | .low => 0x03#8 | .rate _ _ => 0x04#8] ++
          beBytes 4 m.lowLimit ++ beBytes 4 m.highLimit ++ beBytes 1 m.reportInterval ++ beBytes 4 g.accepted ++
          beBytes 4 (g.last.getD 0) ++ beBytes 4 (g.minimum.getD 0) ++ beBytes 4 (g.maximum.getD 0) ++
          beBytes 1 g.sinceReport ++ progress ++ stall ∧
        (g.interval = none → g.windowStart = none → progress = List.replicate 9 0x00#8) ∧
        (∀ i, g.interval = some i → (∀ sel window, m.mode ≠ .rate sel window) →
          progress = [0x01#8] ++
            beBytes 4 (if i.aged then 4294967295 else min 4294967295 (s.time - i.openedAt).toNat) ++ beBytes 4 0) ∧
        (∀ sel window start, m.mode = .rate sel window → g.windowStart = some start → ∃ left : Nat,
          progress = [0x02#8] ++ beBytes 4 (s.countOf j) ++ beBytes 4 left ∧
          s.LeftUntil (plus start window) 4294967295 left) ∧
        ((∀ e ∈ s.schedule, e.job = j → e.purpose ≠ .stall) → stall = List.replicate 6 0x00#8) ∧
        (∀ e, s.schedule.find? (fun x => decide (x.job = j)) = some e → e.purpose = .stall → ∃ left : Nat,
          stall = [0x01#8] ++ beBytes 5 left ∧ s.LeftUntil e.due 4294967296 left)) ∧
      (∀ k g, d.work = .delay k g → kindPart.length = 9 ∧
        (s.jobs[j].state = .defined ∨ s.jobs[j].state = .armed →
          kindPart = beBytes 4 k.duration ++ beBytes 4 k.duration ++ [0x00#8]) ∧
        (s.jobs[j].state = .held ∨ s.jobs[j].state = .ended →
          kindPart = beBytes 4 k.duration ++ beBytes 4 g.remaining ++ [0x00#8]) ∧
        (∀ e, s.jobs[j].state = .running → s.schedule.find? (fun x => decide (x.job = j)) = some e →
          kindPart = beBytes 4 k.duration ++
            beBytes 4 (if reached s.time e.due then 0 else (e.due - s.time).toNat) ++
            yesNo (match d.output with
              | none => false
              | some u => decide (s.outputs[u.line].owner = some j)))) ∧
      (∀ k g, d.work = .tick k g → kindPart.length = 19 ∧ ∃ next staged : List Byte,
        kindPart = beBytes 4 g.ticksDone.toNat ++ next ++ beBytes 4 k.period ++ beBytes 2 k.limit ++ staged ∧
        (s.jobs[j].state = .defined ∨ s.jobs[j].state = .armed → next = [0x01#8] ++ beBytes 4 k.period) ∧
        (∀ e, s.jobs[j].state = .running ∨ s.jobs[j].state = .stopping →
          s.schedule.find? (fun x => decide (x.job = j)) = some e →
          next = [0x01#8] ++ beBytes 4 (if reached s.time e.due then 0 else (e.due - s.time).toNat)) ∧
        (s.jobs[j].state = .held → next = [0x01#8] ++ beBytes 4 g.remaining) ∧
        (s.jobs[j].state = .ended → next = [0x00#8] ++ beBytes 4 0) ∧
        (s.jobs[j].staged = none → staged = beBytes 4 0) ∧
        (∀ period, s.jobs[j].staged = some (.period period) → staged = beBytes 4 period)) ∧
      (∀ v g, d.work = .wave v g → kindPart.length = 25 ∧ ∃ phase staged : List Byte,
        kindPart = beBytes 4 g.pulses.toNat ++ phase ++ beBytes 3 v.period ++ beBytes 3 v.width ++ beBytes 2 v.limit ++
          staged ∧
        (g.phase = none → g.periodStart = none → phase = List.replicate 7 0x00#8) ∧
        (∀ ph start c x, g.phase = some ph → g.periodStart = some start → s.jobs[j].cells.head? = some c →
          s.cells[c].phase = some x → ∃ left : Nat,
          phase = [if ph = .active then 0x01#8 else 0x02#8] ++ beBytes 3 left ++ beBytes 3 (s.time - start).toNat ∧
          s.LeftUntil (plus x.start x.length) 16777215 left) ∧
        (s.jobs[j].staged = none → staged = List.replicate 6 0x00#8) ∧
        (∀ period width, s.jobs[j].staged = some (.pair period width) → staged = beBytes 3 period ++ beBytes 3 width)) ∧
      (∀ x g, d.work = .echo x g → kindPart.length = 28 + 6 * g.pendingList.length ∧ ∃ pulse : List Byte,
        kindPart = beBytes 3 x.delay ++ beBytes 2 x.width ++ [match x.overlap with
            | .queue => 0x01#8 | .replace => 0x02#8 | .ignore => 0x03#8] ++
          beBytes 2 x.limit ++ beBytes 4 g.pulses.toNat ++ beBytes 4 g.missed ++ beBytes 4 g.slipped ++ beBytes 4 g.cut ++
          pulse ++ beBytes 1 g.pendingList.length ++ g.pendingList.flatMap (fun y => beBytes 6 y.due.toNat) ∧
        (g.pulse = none → pulse = [0x00#8, 0x00#8, 0x00#8]) ∧
        (∀ u, g.pulse = some u → ∃ left : Nat, pulse = [0x01#8] ++ beBytes 2 left ∧ s.LeftUntil u.endTime 65535 left))

/-- R20: DELETE returns a DEFINED or ENDED job to FREE and changes nothing else; its reports stay in the queue. -/
def Obligations.DeleteFreesJob : Prop :=
  ∀ (s : State) (f : Frame) (j : JobId), s.Takes f → f.kind = 0x09#8 →
    f.payload = [BitVec.ofNat 8 (j.val + 1)] → s.jobs[j].state = .defined ∨ s.jobs[j].state = .ended →
    ∃ q : Part,
      exec .delete s = .next (s.withPart (q.answered f
        ([0x00#8, 0x00#8, BitVec.ofNat 8 (j.val + 1)] ++ List.replicate 22 0x00#8))) ∧
      q.jobs[j] = { state := .free, defn := none, run := 0#8, cells := [], staged := none, result := none, lost := 0,
                    reservation := false } ∧
      (∀ k : JobId, k ≠ j → q.jobs[k] = s.jobs[k]) ∧ { q with jobs := s.jobs } = s.dropFrame

/-- The commands that carry a job number alone, with their kind codes (R165, R171). -/
def Sys2Proof.Machine.oneByteRows : List (Instr × Byte) :=
  [(.start, 0x03#8), (.hold, 0x05#8), (.resume, 0x06#8), (.read, 0x08#8), (.delete, 0x09#8)]

/-- Section 1.2: the states in which a command that carries a job number alone gives WRONG_STATE. -/
def Sys2Proof.Machine.wrongState (i : Instr) (st : JobState) : Prop :=
  (i = .start ∧ st ≠ .defined ∧ st ≠ .ended) ∨ (i = .hold ∧ st ≠ .running) ∨ (i = .resume ∧ st ≠ .held) ∨
  (i = .read ∧ st = .free) ∨ (i = .delete ∧ st ≠ .defined ∧ st ≠ .ended)

/-- R169: the codes of field 2 that name an ALTER kind, each with the length of the values that follow it. -/
def Sys2Proof.Machine.alterLengths : List (Byte × Nat) :=
  [(0x01#8, 6), (0x02#8, 9), (0x04#8, 4), (0x05#8, 6), (0x06#8, 5)]

/-- R5, R8, R12, R15, R16, R17, R19, R20 and R169: each job command refuses a wrong length with BAD_LENGTH, then a job number
outside 1–32 with BAD_JOB, then the states of section 1.2's table with WRONG_STATE, and changes nothing. ALTER does so with
the code of each ALTER kind, and with a code that names none, for which any length of at least 2 passes. -/
def Obligations.JobCommandsRefusedByState : Prop :=
  ∀ (s : State) (f : Frame), s.Takes f →
    (∀ r ∈ oneByteRows, f.kind = r.2 →
      (f.payload.length ≠ 1 → exec r.1 s = .next (s.withPart (s.refused f 0x02#8 0x00#8))) ∧
      (∀ n : Byte, f.payload = [n] →
        (n.toNat = 0 ∨ 32 < n.toNat → exec r.1 s = .next (s.withPart (s.refused f 0x03#8 0x00#8))) ∧
        (∀ j : JobId, n.toNat = j.val + 1 → wrongState r.1 s.jobs[j].state →
          exec r.1 s = .next (s.withPart (s.refused f 0x06#8 0x00#8))))) ∧
    (f.kind = 0x04#8 →
      (f.payload.length ≠ 2 → exec .stop s = .next (s.withPart (s.refused f 0x02#8 0x00#8))) ∧
      (∀ n finish : Byte, f.payload = [n, finish] →
        (n.toNat = 0 ∨ 32 < n.toNat → exec .stop s = .next (s.withPart (s.refused f 0x03#8 0x00#8))) ∧
        (∀ j : JobId, n.toNat = j.val + 1 → s.jobs[j].state.live = false →
          exec .stop s = .next (s.withPart (s.refused f 0x06#8 0x00#8))))) ∧
    (f.kind = 0x07#8 →
      (f.payload.length < 2 → exec .alter s = .next (s.withPart (s.refused f 0x02#8 0x00#8))) ∧
      (∀ (n code : Byte) (values : List Byte), f.payload = [n, code] ++ values →
        (∀ r ∈ alterLengths, code = r.1 → values.length ≠ r.2 →
          exec .alter s = .next (s.withPart (s.refused f 0x02#8 0x00#8))) ∧
        ((∀ r ∈ alterLengths, code = r.1 → values.length = r.2) →
          (n.toNat = 0 ∨ 32 < n.toNat → exec .alter s = .next (s.withPart (s.refused f 0x03#8 0x00#8))) ∧
          (∀ j : JobId, n.toNat = j.val + 1 →
            s.jobs[j].state = .free ∨ s.jobs[j].state = .defined ∨ s.jobs[j].state = .stopping ∨ s.jobs[j].state = .ended →
            exec .alter s = .next (s.withPart (s.refused f 0x06#8 0x00#8))))))

/-! ### Endings, links and the cascade -/

/-- R27, steps 1 to 5, and R26: an ending removes the job's entry, frees its cells, drives its line to idle and releases it,
records the result, clears the staged alteration, and turns the reservation into the END report, whatever the cause and
whatever live state the job leaves. The parameters stay (R4), and the progress keeps its values with the phase, interval,
window, list and pulse in progress abandoned, by kind (R57, R77, R89, R97, R107, R118, R119). With no end action that is the
whole ending, with outcome NONE; that this is so at LINK_LOST too is the model's deduction (log entry 12). Deliveries of edges
that the job has not taken are dropped with its watching: also the model's deduction (log entry 11). The flag of a report
entry, whether it was admitted since its job's last start, is the model's own field (log entry 20). -/
def Obligations.EndingRunsItsSteps : Prop :=
  ∀ (p : Part) (j : JobId) (d : Definition) (cause : EndCause) (endTime : Time) (sample : Nat),
    p.jobs[j].defn = some d →
    ∃ (q : Part) (w : Work) (final aux : Nat),
      q = p.endSteps j cause endTime sample ∧
      (d.endAction = none → p.endJob j cause endTime sample = q) ∧
      (∀ c g, d.work = .count c g → w = .count c { g with count := p.countOf j }) ∧
      (∀ m g, d.work = .measure m g → w = .measure m { g with interval := none, stallRef := none, windowStart := none }) ∧
      (∀ k g, d.work = .delay k g → ∃ remaining : Nat, w = .delay k { remaining := remaining } ∧
        (cause = .expired → remaining = 0) ∧
        (cause ≠ .expired →
          (p.jobs[j].state = .armed → remaining = k.duration) ∧
          (p.jobs[j].state ≠ .armed → p.jobs[j].state ≠ .running → remaining = g.remaining) ∧
          (∀ e, p.jobs[j].state = .running → p.schedule.find? (fun x => decide (x.job = j)) = some e →
            remaining = if reached endTime e.due then 0 else (e.due - endTime).toNat))) ∧
      (∀ k g, d.work = .tick k g → w = .tick k g) ∧
      (∀ v g, d.work = .wave v g → w = .wave v { g with phase := none, periodStart := none, turnsLeft := 0 }) ∧
      (∀ x g, d.work = .echo x g → w = .echo x { g with
        pendingList := [], pulse := none
        missed := min 4294967295 (g.missed + g.pendingList.length)
        cut := min 4294967295 (g.cut + if g.pulse.isSome then 1 else 0) }) ∧
      q.jobs[j] =
        { state := .ended, defn := some { d with work := w }, run := p.jobs[j].run, cells := [], staged := none,
          result := some { cause := cause, final := final, aux := aux, endTime := endTime, outcome := .none },
          lost := 0, reservation := false } ∧
      (∀ k : JobId, k ≠ j → q.jobs[k] = p.jobs[k]) ∧
      q.schedule = p.schedule.filter (fun e => decide (e.job ≠ j)) ∧
      (∀ c : CellId, q.cells[c] =
        if p.cells[c].owner = some j then { owner := none, count := 0#16, phase := none } else p.cells[c]) ∧
      (∀ u : OutputUse, d.output = some u → p.outputs[u.line].owner = some j →
        q.outputs[u.line] = { level := u.idle, owner := none }) ∧
      (∀ o : OutId, (∀ u : OutputUse, d.output = some u → u.line = o → p.outputs[o].owner ≠ some j) →
        q.outputs[o] = p.outputs[o]) ∧
      q.deliveries = p.deliveries.filter (fun x => decide (x.job ≠ j)) ∧
      q.reports = { p.reports with
        queue := p.reports.queue ++
          [{ seq := p.reports.nextSeq, job := some j, run := p.jobs[j].run, time := endTime, lost := p.jobs[j].lost,
             content := .ended cause final aux .none, delivery := .new, thisStart := true }]
        nextSeq := p.reports.nextSeq + 1#16, reservations := p.reports.reservations - 1 } ∧
      { q with jobs := p.jobs, schedule := p.schedule, cells := p.cells, outputs := p.outputs,
               deliveries := p.deliveries, reports := p.reports } = p

/-- R57, R66, R69, R71, R77, R87, R89, R94, R97, R107 and R119: the final and the auxiliary value that each kind records at
each end cause, from the live state it leaves. THE MODEL'S (DEDUCED): the values for a cause that the kind's table does not
list, since the operation is total (log entry 26); and the time in the period of a WAVE job as a difference modulo 2^48 (log
entry 22). -/
def Obligations.EndingValuesByKind : Prop :=
  ∀ (p : Part) (j : JobId) (d : Definition) (cause : EndCause) (endTime : Time) (sample : Nat),
    p.jobs[j].defn = some d →
    ∃ r : Result, (p.endSteps j cause endTime sample).jobs[j].result = some r ∧ r.cause = cause ∧ r.endTime = endTime ∧
      (p.jobs[j].state = .armed →
        (∀ c g, d.work = .count c g → r.final = 0 ∧ r.aux = 0) ∧
        (∀ m g, d.work = .measure m g → r.final = 0 ∧ r.aux = 0) ∧
        (∀ k g, d.work = .delay k g → cause ≠ .expired → r.final = 0 ∧ r.aux = k.duration) ∧
        (∀ k g, d.work = .tick k g → r.final = 0 ∧ r.aux = k.period) ∧
        (∀ v g, d.work = .wave v g → r.final = 0 ∧ r.aux = 0) ∧
        (∀ x g, d.work = .echo x g → r.final = 0 ∧ r.aux = 0)) ∧
      (p.jobs[j].state = .running ∨ p.jobs[j].state = .held ∨ p.jobs[j].state = .stopping →
        (∀ c g, d.work = .count c g → r.final = p.countOf j ∧ r.aux = g.blocked) ∧
        (∀ m g, d.work = .measure m g → r.aux = g.accepted ∧
          (cause = .highExceeded ∨ cause = .lowExceeded → r.final = sample) ∧
          (cause = .stall → r.final = m.highLimit + 1) ∧
          (cause = .overflow → r.final = 65535) ∧
          (cause = .hostStop ∨ cause = .linkedStop ∨ cause = .linkLost →
            (∀ x, g.last = some x → r.final = x) ∧ (g.last = none → r.final = 0))) ∧
        (∀ k g, d.work = .delay k g →
          (cause = .expired → r.final = k.duration ∧ r.aux = 0) ∧
          (cause ≠ .expired → r.final = k.duration - r.aux ∧
            (p.jobs[j].state = .held → r.aux = g.remaining) ∧
            (∀ e, p.jobs[j].state = .running → p.schedule.find? (fun x => decide (x.job = j)) = some e →
              r.aux = if reached endTime e.due then 0 else (e.due - endTime).toNat))) ∧
        (∀ k g, d.work = .tick k g → r.final = g.ticksDone.toNat ∧ r.aux = k.period) ∧
        (∀ v g, d.work = .wave v g → r.final = g.pulses.toNat ∧
          (p.jobs[j].state = .held ∨ g.periodStart = none → r.aux = 0) ∧
          (∀ t, p.jobs[j].state ≠ .held → g.periodStart = some t → r.aux = (endTime - t).toNat)) ∧
        (∀ x g, d.work = .echo x g →
          r.final = g.pulses.toNat ∧ r.aux = min 4294967295 (g.missed + g.pendingList.length)))

/-- R124 to R127, R129 and R130: step 6 of an ending. Nothing is done at LINK_LOST, with outcome SUPPRESSED. A START link
moves an ARMED target into RUNNING at the link time, makes a full start of a DEFINED or ENDED one (the source among them), and
leaves the others; a STOP link leaves a target that is not live. The outcome is written into the source's result and END
report. That a target which a START command has just left ARMED is moved into RUNNING with DONE, as R11 and R125 say, where
R22 has TARGET_BUSY recorded, is the model's deduction (log entry 34). -/
def Obligations.LinksActOnTargets : Prop :=
  (∀ (p : Part) (j : JobId) (d : Definition) (cause : EndCause) (endTime : Time) (sample : Nat) (q : Part),
    p.jobs[j].defn = some d → q = p.endSteps j cause endTime sample →
    (d.endAction ≠ none → cause = .linkLost →
      p.endJob j cause endTime sample = q.recordOutcome j p.reports.nextSeq .suppressed) ∧
    (∀ t : JobId, d.endAction = some (.start t) → cause ≠ .linkLost →
      (q.jobs[t].state = .armed → p.endJob j cause endTime sample =
        (q.enterRunning t q.time).recordOutcome j p.reports.nextSeq .done) ∧
      (q.jobs[t].state = .running ∨ q.jobs[t].state = .held ∨ q.jobs[t].state = .stopping →
        p.endJob j cause endTime sample = q.recordOutcome j p.reports.nextSeq .targetBusy) ∧
      (q.jobs[t].state = .free →
        p.endJob j cause endTime sample = q.recordOutcome j p.reports.nextSeq .targetFree) ∧
      (∀ dt : Definition, q.jobs[t].state = .defined ∨ q.jobs[t].state = .ended → q.jobs[t].defn = some dt →
        (∀ (u : OutputUse) (k : JobId), dt.output = some u → q.outputs[u.line].owner = some k → k ≠ t →
          p.endJob j cause endTime sample = q.recordOutcome j p.reports.nextSeq .lineBusy) ∧
        ((∀ (u : OutputUse) (k : JobId), dt.output = some u → q.outputs[u.line].owner = some k → k = t) →
          (q.freeCells.length < dt.work.cellsNeeded →
            p.endJob j cause endTime sample = q.recordOutcome j p.reports.nextSeq .noCells) ∧
          (dt.work.cellsNeeded ≤ q.freeCells.length → 64 ≤ q.reports.queue.length + q.reports.reservations →
            p.endJob j cause endTime sample = q.recordOutcome j p.reports.nextSeq .noRoom) ∧
          (dt.work.cellsNeeded ≤ q.freeCells.length → q.reports.queue.length + q.reports.reservations < 64 →
            p.endJob j cause endTime sample =
              ((q.grant t dt (q.freeCells.take dt.work.cellsNeeded)).enterRunning t q.time).recordOutcome j
                p.reports.nextSeq .done)))) ∧
    (∀ t : JobId, d.endAction = some (.stop t) → cause ≠ .linkLost →
      (q.jobs[t].state = .defined ∨ q.jobs[t].state = .ended →
        p.endJob j cause endTime sample = q.recordOutcome j p.reports.nextSeq .targetIdle) ∧
      (q.jobs[t].state = .free →
        p.endJob j cause endTime sample = q.recordOutcome j p.reports.nextSeq .targetFree))) ∧
  (∀ (q : Part) (j : JobId) (seq : BitVec 16) (o : LinkOutcome) (r : Part), r = q.recordOutcome j seq o →
    (∀ x : Result, q.jobs[j].result = some x → r.jobs[j] = { q.jobs[j] with result := some { x with outcome := o } }) ∧
    (q.jobs[j].result = none → r.jobs[j] = q.jobs[j]) ∧ (∀ k : JobId, k ≠ j → r.jobs[k] = q.jobs[k]) ∧
    (∀ (pre post : List ReportEntry) (e : ReportEntry) (cause : EndCause) (final aux : Nat) (o' : LinkOutcome),
      q.reports.queue = pre ++ e :: post → (∀ x ∈ pre ++ post, x.seq ≠ seq) → e.seq = seq →
      e.content = .ended cause final aux o' →
      r.reports = { q.reports with queue := pre ++ { e with content := .ended cause final aux o } :: post }) ∧
    { r with jobs := q.jobs, reports := q.reports } = q)

/-- R126, R127 and R128: a STOP link on a live target ends it with LINKED_STOP at the link time, its own end action
included, however long the cascade; each job ends at most once, so at most 32 END reports are admitted, behind the reports
already queued, the source's first with its own cause and every other with LINKED_STOP. That a STOP link which follows, in one
microsecond, an ending that has started the target again ends the new run, where the tables of R59 and its like have
TARGET_IDLE, is the model's deduction (log entry 38). -/
def Obligations.StopLinksCascade : Prop :=
  ∀ (p : Part) (j : JobId) (d : Definition) (cause : EndCause) (endTime : Time) (sample : Nat),
    p.jobs[j].defn = some d →
    (∀ (t : JobId) (q : Part), d.endAction = some (.stop t) → cause ≠ .linkLost →
      q = p.endSteps j cause endTime sample → q.jobs[t].state.live = true →
      p.endJob j cause endTime sample =
        (q.endJob t .linkedStop q.time 0).recordOutcome j p.reports.nextSeq .done) ∧
    ∃ (ended : List JobId) (old new : List ReportEntry), ended.head? = some j ∧ ended.Nodup ∧ ended.length ≤ 32 ∧
      (p.endJob j cause endTime sample).reports.queue = old ++ new ∧
      old.map (fun e => e.job) = p.reports.queue.map (fun e => e.job) ∧ new.map (fun e => e.job) = ended.map some ∧
      (∀ e, new.head? = some e → ∃ final aux outcome, e.content = .ended cause final aux outcome) ∧
      ∀ e ∈ new.tail, ∃ final aux outcome, e.content = .ended .linkedStop final aux outcome

/-! ### Reports and the schedule -/

/-- R133, R134, R135, R93 and R136: an offered report is admitted at the tail, NEW, with the next sequence and the job's lost
counter, which becomes 0, exactly while occupancy plus reservations is below 64; otherwise it is dropped and counted. A tick
is folded into the job's NEW TICK report of this start when there is one, and is offered otherwise. That 'of this start' is a
flag of the entry, which a start clears, is the model's choice (log entry 20). -/
def Obligations.ReportOffers : Prop :=
  ∀ (p : Part) (j : JobId) (time : Time),
    (∀ content : ReportContent,
      (p.reports.queue.length + p.reports.reservations < 64 →
        p.offer j time content = { p with
          jobs := p.jobs.set j.val { p.jobs[j] with lost := 0 } j.isLt
          reports := { p.reports with
            queue := p.reports.queue ++
              [{ seq := p.reports.nextSeq, job := some j, run := p.jobs[j].run, time := time, lost := p.jobs[j].lost,
                 content := content, delivery := .new, thisStart := true }]
            nextSeq := p.reports.nextSeq + 1#16 } }) ∧
      (64 ≤ p.reports.queue.length + p.reports.reservations →
        p.offer j time content = { p with
          jobs := p.jobs.set j.val
            { p.jobs[j] with lost := if p.jobs[j].lost < 255 then p.jobs[j].lost + 1 else p.jobs[j].lost } j.isLt })) ∧
    (∀ (number : BitVec 32) (pre post : List ReportEntry) (e : ReportEntry) (old : BitVec 32) (merged : Nat),
      p.reports.queue = pre ++ e :: post → e.job = some j → e.delivery = .new → e.thisStart = true →
      e.content = .tick old merged →
      (∀ x ∈ pre ++ post, ∀ n m, x.job = some j → x.delivery = .new → x.thisStart = true → x.content ≠ .tick n m) →
      p.offerTick j number time = { p with reports := { p.reports with
        queue := pre ++ { e with
          time := time, content := .tick number (if merged < 255 then merged + 1 else merged) } :: post } }) ∧
    (∀ number : BitVec 32,
      (∀ x ∈ p.reports.queue, ∀ n m, x.job = some j → x.delivery = .new → x.thisStart = true →
        x.content ≠ .tick n m) →
      p.offerTick j number time = p.offer j time (.tick number 0))

/-- R80 and R81: a placement removes any entry the job holds and inserts the new one before the first entry that is due later,
so behind the entries with an equal due time; it touches no other entry, and a schedule in order of due time stays in
order, across the wrap of device time. -/
def Obligations.SchedulePlacement : Prop :=
  ∀ (p : Part) (j : JobId) (purpose : Purpose) (due : Time),
    { p.place j purpose due with schedule := p.schedule } = p ∧
    (∃ pre post : List DeadlineEntry,
      (p.place j purpose due).schedule = pre ++ { due := due, job := j, purpose := purpose } :: post ∧
      pre ++ post = p.schedule.filter (fun e => decide (e.job ≠ j)) ∧
      (∀ x ∈ pre, ¬ ((x.due - due).toNat ≠ 0 ∧ (x.due - due).toNat < 2 ^ 47)) ∧
      (∀ x, post.head? = some x → (x.due - due).toNat ≠ 0 ∧ (x.due - due).toNat < 2 ^ 47)) ∧
    ∀ base : Time, (∀ x ∈ p.schedule, (x.due - base).toNat < 2 ^ 47) → (due - base).toNat < 2 ^ 47 →
      p.schedule.Pairwise (fun a b => (a.due - base).toNat ≤ (b.due - base).toNat) →
      (p.place j purpose due).schedule.Pairwise (fun a b => (a.due - base).toNat ≤ (b.due - base).toNat)

/-! ### Input lines -/

/-- R33: a change whose time has come is accepted before the sample is compared; a sample at the filtered level drops the
change; a sample at the other level starts one with the line's filter setting, or with setting 0 is accepted at once; a sample
at the new level leaves the change. That a step which is not due has no effect is the model's deduction (log entry 5). -/
def Obligations.SampleFiltering : Prop :=
  ∀ (s : State) (i : InId) (level : Level), s.clocked = true →
    (∀ c : LineChange, s.inputs[i].change = some c → reached s.time (plus c.firstSeen c.filterTime) = true →
      exec (.edgeAcceptance i.val) s = .next (s.withPart (s.acceptChange i c)) ∧
      exec (.changeUnderFiltering i.val level) s =
        exec (.changeUnderFiltering i.val level) (s.withPart (s.acceptChange i c))) ∧
    ((∀ c : LineChange, s.inputs[i].change = some c → reached s.time (plus c.firstSeen c.filterTime) = false) →
      exec (.edgeAcceptance i.val) s = .next s ∧
      (level = s.inputs[i].filtered →
        exec (.changeUnderFiltering i.val level) s =
          .next { s with inputs := s.inputs.set i.val { s.inputs[i] with change := none } i.isLt }) ∧
      (level ≠ s.inputs[i].filtered → s.inputs[i].change ≠ none →
        exec (.changeUnderFiltering i.val level) s = .next s) ∧
      (level ≠ s.inputs[i].filtered → s.inputs[i].change = none → s.inputs[i].filter = 0 →
        exec (.changeUnderFiltering i.val level) s =
          .next (s.withPart (s.acceptChange i { level := level, firstSeen := s.time, filterTime := 0 }))) ∧
      (level ≠ s.inputs[i].filtered → s.inputs[i].change = none → s.inputs[i].filter ≠ 0 →
        exec (.changeUnderFiltering i.val level) s =
          .next (s.withPart (s.setInput i { s.inputs[i] with
            change := some { level := level, firstSeen := s.time, filterTime := s.inputs[i].filter } }))))

/-- R34 and R36: an acceptance makes the new level the filtered one, ends the change, and sends the edge, with its polarity,
edge time and acceptance time, and with the state the job is in now (R48), to each job that watches the line now: its arming line in ARMED with ON_EDGE, its source
line in RUNNING, HELD and STOPPING; and to no other. -/
def Obligations.AcceptanceFormsEdge : Prop :=
  ∀ (p : Part) (i : InId) (c : LineChange),
    (p.acceptChange i c).inputs = p.inputs.set i.val { p.inputs[i] with filtered := c.level, change := none } i.isLt ∧
    { p.acceptChange i c with inputs := p.inputs, deliveries := p.deliveries } = p ∧
    ∃ watching : List JobId, watching.Nodup ∧
      (p.acceptChange i c).deliveries = p.deliveries ++ watching.map (fun j =>
        { job := j
          edge := { line := i, polarity := if c.level = .high then .rising else .falling, edgeTime := c.firstSeen,
                    acceptance := plus c.firstSeen c.filterTime }
          acceptedIn := p.jobs[j].state }) ∧
      ∀ j : JobId, j ∈ watching ↔ ∃ d : Definition, p.jobs[j].defn = some d ∧
        ((p.jobs[j].state = .armed ∧ ∃ polarity, d.startMode = .onEdge i polarity) ∨
         ((p.jobs[j].state = .running ∨ p.jobs[j].state = .held ∨ p.jobs[j].state = .stopping) ∧
          ((∃ w g, d.work = .count w g ∧ w.source = i) ∨ (∃ w g, d.work = .measure w g ∧ w.source = i) ∨
           (∃ w g, d.work = .echo w g ∧ w.source = i))))

/-- Job `j`, with definition `d`, takes the oldest edge outstanding to it, accepted while the job was in state `st`; `p` is the
part with that delivery gone. -/
def Sys2Proof.Machine.State.TakesEdge (s : State) (j : JobId) (d : Definition) (e : Edge) (st : JobState) (p : Part) : Prop :=
  ∃ pre post : List Delivery, s.deliveries = pre ++ { job := j, edge := e, acceptedIn := st } :: post ∧
    (∀ x ∈ pre, x.job ≠ j) ∧ s.jobs[j].defn = some d ∧ p = { s.toPart with deliveries := pre ++ post }

/-- R11, R21 and R36: the arming edge moves an ARMED job into RUNNING at its acceptance time and is consumed; edges that find
the job in another state, on another line or of another polarity have no effect; with none outstanding nothing happens. That a
job's outstanding edges are taken oldest first is the model's deduction (log entry 11); so is that a step with none
outstanding has no effect (log entry 5). -/
def Obligations.EdgeArmsOrPassesBy : Prop :=
  (∀ (s : State) (j : JobId) (d : Definition) (e : Edge) (st : JobState) (p : Part), s.TakesEdge j d e st p →
    (s.jobs[j].state = .armed → d.startMode = .onEdge e.line e.polarity →
      exec (.edgeDelivery (j.val + 1)) s = .next (s.withPart (p.enterRunning j e.acceptance).arbitrate)) ∧
    (s.jobs[j].state = .armed → d.startMode ≠ .onEdge e.line e.polarity →
      exec (.edgeDelivery (j.val + 1)) s = .next (s.withPart p.arbitrate)) ∧
    (s.jobs[j].state = .held ∨ s.jobs[j].state = .stopping ∨ s.jobs[j].state = .ended ∨ s.jobs[j].state = .defined →
      exec (.edgeDelivery (j.val + 1)) s = .next (s.withPart p.arbitrate)) ∧
    (s.jobs[j].state = .running →
      (∀ w g, d.work = .count w g → w.source ≠ e.line) → (∀ w g, d.work = .measure w g → w.source ≠ e.line) →
      (∀ w g, d.work = .echo w g → w.source ≠ e.line) →
      exec (.edgeDelivery (j.val + 1)) s = .next (s.withPart p.arbitrate))) ∧
  (∀ (s : State) (j : JobId), (∀ x ∈ s.deliveries, x.job ≠ j) → exec (.edgeDelivery (j.val + 1)) s = .next s)

/-- R11 and the kind chapters (R62, R68, R70, R86, R92, R102): entry into RUNNING at a time. The RUNNING entry time is that
time; each kind places its first entry, drives its line and gives its cell a phase or sets it to 0 as it does; nothing else
changes. That a WAVE phase begins with its whole turns of 65,536 µs left, the width divided by 65,536 and rounded down, is the
model's deduction (log entry 23). -/
def Obligations.EntryIntoRunningByKind : Prop :=
  ∀ (p : Part) (j : JobId) (d : Definition) (t : Time) (q : Part), p.jobs[j].defn = some d → q = p.enterRunning j t →
    q.jobs[j] = { p.jobs[j] with state := .running, defn := some { d with entryTime := t, work := d.work.atEntry t } } ∧
    (∀ k : JobId, k ≠ j → q.jobs[k] = p.jobs[k]) ∧
    (d.work.entryDeadline t = none → q.schedule = p.schedule) ∧
    (∀ purpose due, d.work.entryDeadline t = some (purpose, due) → q.schedule = (p.place j purpose due).schedule) ∧
    (∀ u : OutputUse, d.output = some u → p.outputs[u.line].owner = some j → d.work.activeAtEntry = true →
      q.outputs[u.line] = { level := if u.idle = .high then .low else .high, owner := some j }) ∧
    (∀ o : OutId, d.work.activeAtEntry = false ∨
        (∀ u : OutputUse, d.output = some u → u.line = o → p.outputs[o].owner ≠ some j) →
      q.outputs[o] = p.outputs[o]) ∧
    (∀ (c : CellId) (v : WaveParams) (g : WaveProgress), d.work = .wave v g → p.jobs[j].cells.head? = some c →
      q.cells[c] = { p.cells[c] with phase := some { start := t, length := v.width } }) ∧
    (∀ (c : CellId) (m : MeasureParams) (g : MeasureProgress) (sel : EdgeSelect) (window : Nat),
      d.work = .measure m g → m.mode = .rate sel window → p.jobs[j].cells.head? = some c →
      q.cells[c] = { p.cells[c] with count := 0#16 }) ∧
    (∀ c : CellId, p.jobs[j].cells.head? ≠ some c → q.cells[c] = p.cells[c]) ∧
    ((∀ v g, d.work ≠ .wave v g) → (∀ m g sel window, d.work = .measure m g → m.mode ≠ .rate sel window) →
      q.cells = p.cells) ∧
    { q with jobs := p.jobs, schedule := p.schedule, outputs := p.outputs, cells := p.cells } = p

/-! ### Edges at COUNT, MEASURE and ECHO jobs -/

/-- R48 to R53, R24 and R37: a source edge at a RUNNING COUNT job. The other polarity has no effect; a closed gate raises the
blocked count, saturating; at the largest count the job ends with OVERFLOW; otherwise the count in its cells rises by 1, and
the job ends with LIMIT_REACHED at its limit, or offers a PROGRESS report at a multiple of its step. An edge accepted
while the job was ARMED or HELD has no effect when the job takes it in RUNNING: it is not counted later (R48). That this holds
against R59, that it is how a COUNT job acts on the edge of R36's example, and that it covers an edge accepted after the arming
edge and before its delivery in one microsecond, against R11 and R47, is the model's deduction (log entry 33). That the gate is
read when the delivery is taken, by R37 and R49, where R21 has the acceptance, is the model's deduction too (log entry 37). -/
def Obligations.CountJobCountsEdge : Prop :=
  ∀ (s : State) (j : JobId) (d : Definition) (e : Edge) (st : JobState) (p : Part) (c : CountParams) (g : CountProgress),
    s.TakesEdge j d e st p → s.jobs[j].state = .running → d.work = .count c g → c.source = e.line →
    s.jobs[j].cells.length = (if c.width = .w16 then 1 else 2) → s.jobs[j].cells.Nodup →
    (st = .armed ∨ st = .held → exec (.edgeDelivery (j.val + 1)) s = .next (s.withPart p.arbitrate)) ∧
    ((c.edge = .rising ∧ e.polarity = .falling) ∨ (c.edge = .falling ∧ e.polarity = .rising) →
      exec (.edgeDelivery (j.val + 1)) s = .next (s.withPart p.arbitrate)) ∧
    (st ≠ .armed → st ≠ .held → c.edge = .both ∨ (c.edge = .rising ∧ e.polarity = .rising) ∨ (c.edge = .falling ∧ e.polarity = .falling) →
      (∀ x : Gate, c.gate = some x → s.inputs[x.line].filtered ≠ x.level →
        exec (.edgeDelivery (j.val + 1)) s = .next (s.withPart (p.setWork j (.count c
          { g with blocked := if g.blocked < 4294967295 then g.blocked + 1 else g.blocked })).arbitrate)) ∧
      ((∀ x : Gate, c.gate = some x → s.inputs[x.line].filtered = x.level) →
        (s.countOf j = (if c.width = .w16 then 65535 else 4294967295) →
          exec (.edgeDelivery (j.val + 1)) s = .next (s.withPart (p.endJob j .overflow e.edgeTime 0).arbitrate)) ∧
        (s.countOf j ≠ (if c.width = .w16 then 65535 else 4294967295) → ∃ q : Part,
          q.countOf j = s.countOf j + 1 ∧ { q with cells := p.cells } = p ∧
          (∀ k : CellId, q.cells[k] = { p.cells[k] with count := q.cells[k].count }) ∧
          (∀ k : CellId, k ∉ p.jobs[j].cells → q.cells[k] = p.cells[k]) ∧
          exec (.edgeDelivery (j.val + 1)) s = .next (s.withPart (Part.arbitrate
            (if c.limit ≠ 0 ∧ s.countOf j + 1 = c.limit then q.endJob j .limitReached e.edgeTime 0
             else if c.step ≠ 0 ∧ (s.countOf j + 1) % c.step = 0 then
               q.offer j e.edgeTime (.progress (s.countOf j + 1))
             else q))))))

/-- R66 and R67: the statistics of a MEASURE job after an accepted sample. -/
def Sys2Proof.Machine.MeasureProgress.withSample (g : MeasureProgress) (m : MeasureParams) (v : Nat) : MeasureProgress :=
  { g with
    accepted := if g.accepted < 4294967295 then g.accepted + 1 else g.accepted
    last := some v
    minimum := some ((g.minimum.map (fun x => min x v)).getD v)
    maximum := some ((g.maximum.map (fun x => max x v)).getD v)
    sinceReport := if m.reportInterval = 0 then g.sinceReport
      else if g.sinceReport + 1 < m.reportInterval then g.sinceReport + 1 else 0 }

/-- R66 and R67: an accepted sample enters the statistics, and a SAMPLE report is offered when the report interval is reached. -/
def Sys2Proof.Machine.Part.withSample (p : Part) (j : JobId) (m : MeasureParams) (g : MeasureProgress) (v : Nat) (time : Time) :
    Part :=
  if m.reportInterval ≠ 0 ∧ m.reportInterval ≤ g.sinceReport + 1 then
    (p.setWork j (.measure m (g.withSample m v))).offer j time (.sample v (g.withSample m v).accepted)
  else p.setWork j (.measure m (g.withSample m v))

/-- R63, R64 and R70: an edge opens an interval at its edge time; with stall enabled it places the stall deadline at that time
plus the high limit plus 1, and in PERIOD mode that time becomes the stall reference. -/
def Sys2Proof.Machine.Part.withInterval (p : Part) (j : JobId) (m : MeasureParams) (g : MeasureProgress) (t : Time) : Part :=
  if m.stall then
    (p.setWork j (.measure m { g with
      interval := some { openedAt := t, aged := false }
      stallRef := if m.mode = .period then some t else g.stallRef })).place j .stall (plus t (m.highLimit + 1))
  else p.setWork j (.measure m { g with interval := some { openedAt := t, aged := false } })

/-- R63 to R70: a source edge at a RUNNING MEASURE job. In the interval modes an opening edge opens an interval; a closing
edge forms the sample, saturating at 4,294,967,295, which ends the job when a limit says so and is accepted otherwise; in
PERIOD mode the same edge opens the next interval. In RATE mode a selected edge is counted in the cell, and the 65,536th of a
window ends the job with OVERFLOW. That an interval of 2^33 µs and more is marked as aged, and its sample saturates, is the
model's deduction (log entry 14). -/
def Obligations.MeasureJobTakesEdge : Prop :=
  ∀ (s : State) (j : JobId) (d : Definition) (e : Edge) (st : JobState) (p : Part) (m : MeasureParams) (g : MeasureProgress),
    s.TakesEdge j d e st p → s.jobs[j].state = .running → d.work = .measure m g → m.source = e.line →
    (m.mode = .period → e.polarity = .falling →
      exec (.edgeDelivery (j.val + 1)) s = .next (s.withPart p.arbitrate)) ∧
    ((m.mode = .period ∧ e.polarity = .rising) ∨ (m.mode = .high ∧ e.polarity = .rising) ∨
        (m.mode = .low ∧ e.polarity = .falling) → g.interval = none →
      exec (.edgeDelivery (j.val + 1)) s = .next (s.withPart (p.withInterval j m g e.edgeTime).arbitrate)) ∧
    ((m.mode = .high ∧ e.polarity = .falling) ∨ (m.mode = .low ∧ e.polarity = .rising) → g.interval = none →
      exec (.edgeDelivery (j.val + 1)) s = .next (s.withPart p.arbitrate)) ∧
    (∀ (i : OpenInterval) (v : Nat) (r : Part),
      g.interval = some i → v = (if i.aged then 4294967295 else min 4294967295 (e.edgeTime - i.openedAt).toNat) →
      (m.mode = .period ∧ e.polarity = .rising ∧ r = p) ∨
        (((m.mode = .high ∧ e.polarity = .falling) ∨ (m.mode = .low ∧ e.polarity = .rising)) ∧ r = p.unschedule j) →
      (m.highLimit ≠ 0 → m.highLimit < v →
        exec (.edgeDelivery (j.val + 1)) s =
          .next (s.withPart (r.endJob j .highExceeded e.edgeTime v).arbitrate)) ∧
      (m.highLimit = 0 ∨ v ≤ m.highLimit → m.lowLimit ≠ 0 → v < m.lowLimit →
        exec (.edgeDelivery (j.val + 1)) s =
          .next (s.withPart (r.endJob j .lowExceeded e.edgeTime v).arbitrate)) ∧
      (m.highLimit = 0 ∨ v ≤ m.highLimit → m.lowLimit = 0 ∨ m.lowLimit ≤ v →
        (m.mode = .period →
          exec (.edgeDelivery (j.val + 1)) s = .next (s.withPart
            ((r.withSample j m g v e.edgeTime).withInterval j m (g.withSample m v) e.edgeTime).arbitrate)) ∧
        (m.mode ≠ .period →
          exec (.edgeDelivery (j.val + 1)) s =
            .next (s.withPart (r.withSample j m { g with interval := none } v e.edgeTime).arbitrate)))) ∧
    (∀ (sel : EdgeSelect) (window : Nat), m.mode = .rate sel window →
      ((sel = .rising ∧ e.polarity = .falling) ∨ (sel = .falling ∧ e.polarity = .rising) →
        exec (.edgeDelivery (j.val + 1)) s = .next (s.withPart p.arbitrate)) ∧
      (sel = .both ∨ (sel = .rising ∧ e.polarity = .rising) ∨ (sel = .falling ∧ e.polarity = .falling) →
        ∀ c : CellId, s.jobs[j].cells = [c] →
          (s.cells[c].count = 0xFFFF#16 →
            exec (.edgeDelivery (j.val + 1)) s = .next (s.withPart (p.endJob j .overflow e.edgeTime 0).arbitrate)) ∧
          (s.cells[c].count ≠ 0xFFFF#16 →
            exec (.edgeDelivery (j.val + 1)) s =
              .next (s.withPart (p.setCell c { s.cells[c] with count := s.cells[c].count + 1#16 }).arbitrate))))

/-- R112: an edge joins the pending list of an ECHO job at the latest of edge time plus delay, acceptance time and the end of
the pulse before it (`before`, absent when there is none); it slips when the third is the latest; a first entry places the
ECHO_DUE entry. -/
def Sys2Proof.Machine.Part.withEcho (p : Part) (j : JobId) (x : EchoParams) (g : EchoProgress) (e : Edge) (before : Option Time) :
    Part :=
  let own := if earlier (plus e.edgeTime x.delay) e.acceptance then e.acceptance else plus e.edgeTime x.delay
  let due := if earlier own (before.getD own) then before.getD own else own
  let q := p.setWork j (.echo x { g with
    pendingList := g.pendingList ++ [{ due := due, width := x.width }]
    slipped := if earlier own (before.getD own) then min 4294967295 (g.slipped + 1) else g.slipped })
  if g.pendingList = [] then q.place j .echoDue due else q

/-- R112 and R113: a source edge at a RUNNING ECHO job. The other polarity has no effect. QUEUE takes it while fewer than 8
wait; REPLACE takes it in place of the entry that waits; IGNORE takes it when none waits and no pulse is in progress. An edge
turned away, and an entry replaced, add 1 to missed. Two clauses are the model's deductions: that QUEUE with 8 waiting turns
away an edge taken before an ECHO_DUE delivery or pulse end of the same microsecond, by R113 against R121 (log entry 35), and
that the delay and width are those in force when the delivery is taken, by R116 against R18 (log entry 36). -/
def Obligations.EchoJobTakesEdge : Prop :=
  ∀ (s : State) (j : JobId) (d : Definition) (e : Edge) (st : JobState) (p : Part) (x : EchoParams) (g : EchoProgress),
    s.TakesEdge j d e st p → s.jobs[j].state = .running → d.work = .echo x g → x.source = e.line →
    (e.polarity ≠ x.edge → exec (.edgeDelivery (j.val + 1)) s = .next (s.withPart p.arbitrate)) ∧
    (e.polarity = x.edge →
      (∀ before : Option Time,
        (∀ (init : List PendingPulse) (last : PendingPulse), g.pendingList = init ++ [last] →
          before = some (plus last.due last.width)) →
        (g.pendingList = [] → before = g.pulse.map (fun u => u.endTime)) →
        (x.overlap = .queue ∧ g.pendingList.length < 8) ∨ (x.overlap = .replace ∧ g.pendingList = []) ∨
          (x.overlap = .ignore ∧ g.pendingList = [] ∧ g.pulse = none) →
        exec (.edgeDelivery (j.val + 1)) s = .next (s.withPart (p.withEcho j x g e before).arbitrate)) ∧
      ((x.overlap = .queue ∧ 8 ≤ g.pendingList.length) ∨
          (x.overlap = .ignore ∧ (g.pendingList ≠ [] ∨ g.pulse ≠ none)) →
        exec (.edgeDelivery (j.val + 1)) s = .next (s.withPart
          (p.setWork j (.echo x { g with missed := min 4294967295 (g.missed + 1) })).arbitrate)) ∧
      (x.overlap = .replace → g.pendingList ≠ [] →
        exec (.edgeDelivery (j.val + 1)) s = .next (s.withPart
          ((p.unschedule j).withEcho j x { g with pendingList := [], missed := min 4294967295 (g.missed + 1) } e
            (g.pulse.map (fun u => u.endTime))).arbitrate)))

/-! ### Deadlines -/

/-- The head entry `e` of the schedule has fallen due for a job with definition `d`; `p` is the part with the entry gone. -/
def Sys2Proof.Machine.State.FallsDue (s : State) (e : DeadlineEntry) (d : Definition) (p : Part) : Prop :=
  s.clocked = true ∧ reached s.time e.due = true ∧ s.jobs[e.job].defn = some d ∧
  ∃ rest, s.schedule = e :: rest ∧ p = { s.toPart with schedule := rest }

/-- The rows that deliver deadline entries, with the purposes of the entries (section 5.1). -/
def Sys2Proof.Machine.deadlineRows : List (Instr × Purpose) :=
  [(.expiry, .expiry), (.tick, .tick), (.stall, .stall), (.windowEnd, .window), (.echoDue, .echoDue)]

/-- R83, R87 and R71: an entry is delivered only once its due time is reached, from the head of the schedule, and to the row
of its purpose. An EXPIRY entry ends its job with EXPIRED, a STALL entry with STALL, at the due time. That a step which is not
due has no effect is the model's deduction (log entry 5). -/
def Obligations.DeadlinesEndDelayAndStall : Prop :=
  (∀ s : State, ∀ r ∈ deadlineRows,
    s.schedule = [] ∨ (∃ e rest, s.schedule = e :: rest ∧ (e.purpose ≠ r.2 ∨ reached s.time e.due = false)) →
    exec r.1 s = .next s) ∧
  ∀ (s : State) (e : DeadlineEntry) (d : Definition) (p : Part), s.FallsDue e d p →
    s.jobs[e.job].state = .running ∨ s.jobs[e.job].state = .stopping →
    (e.purpose = .expiry → exec .expiry s = .next (s.withPart (p.endJob e.job .expired e.due 0).arbitrate)) ∧
    (e.purpose = .stall → exec .stall s = .next (s.withPart (p.endJob e.job .stall e.due 0).arbitrate))

/-- R92, R93, R94 and R97: a TICK entry at a RUNNING job counts the tick, wrapping; at the limit it ends the job with
LIMIT_REACHED at the due time; otherwise it offers a TICK report and places the next entry one period after the due time, a
staged period becoming current. In STOPPING the tick is counted and ends the job with HOST_STOP. -/
def Obligations.TickIsDelivered : Prop :=
  ∀ (s : State) (e : DeadlineEntry) (d : Definition) (p : Part) (k : TickParams) (g g' : TickProgress),
    s.FallsDue e d p → e.purpose = .tick → d.work = .tick k g → g' = { g with ticksDone := g.ticksDone + 1#32 } →
    (s.jobs[e.job].state = .running →
      (k.limit ≠ 0 → g'.ticksDone.toNat = k.limit →
        exec .tick s = .next (s.withPart
          ((p.setWork e.job (.tick k g')).endJob e.job .limitReached e.due 0).arbitrate)) ∧
      (k.limit = 0 ∨ g'.ticksDone.toNat ≠ k.limit → ∃ q : Part,
        q = (p.setWork e.job (.tick k g')).offerTick e.job g'.ticksDone e.due ∧
        (s.jobs[e.job].staged = none →
          exec .tick s = .next (s.withPart (q.place e.job .tick (plus e.due k.period)).arbitrate)) ∧
        (∀ period, s.jobs[e.job].staged = some (.period period) →
          exec .tick s = .next (s.withPart
            (((q.setWork e.job (.tick { k with period := period } g')).setStaged e.job none).place e.job .tick
              (plus e.due period)).arbitrate)))) ∧
    (s.jobs[e.job].state = .stopping →
      exec .tick s = .next (s.withPart ((p.setWork e.job (.tick k g')).endJob e.job .hostStop e.due 0).arbitrate))

/-- R66, R67, R68: a WINDOW entry at a RUNNING RATE job forms the sample from the cell's count; a limit may end the job at the
due time; an accepted sample starts the next window at the due time, with the cell at 0 and its entry one window later. -/
def Obligations.WindowEndFormsSample : Prop :=
  ∀ (s : State) (e : DeadlineEntry) (d : Definition) (p : Part) (m : MeasureParams) (g : MeasureProgress)
    (sel : EdgeSelect) (window : Nat) (c : CellId) (v : Nat),
    s.FallsDue e d p → e.purpose = .window → s.jobs[e.job].state = .running → d.work = .measure m g →
    m.mode = .rate sel window → s.jobs[e.job].cells = [c] → v = s.cells[c].count.toNat →
    (m.highLimit ≠ 0 → m.highLimit < v →
      exec .windowEnd s = .next (s.withPart (p.endJob e.job .highExceeded e.due v).arbitrate)) ∧
    (m.highLimit = 0 ∨ v ≤ m.highLimit → m.lowLimit ≠ 0 → v < m.lowLimit →
      exec .windowEnd s = .next (s.withPart (p.endJob e.job .lowExceeded e.due v).arbitrate)) ∧
    (m.highLimit = 0 ∨ v ≤ m.highLimit → m.lowLimit = 0 ∨ m.lowLimit ≤ v →
      exec .windowEnd s = .next (s.withPart
        ((((p.withSample e.job m g v e.due).setWork e.job
          (.measure m { g.withSample m v with windowStart := some e.due })).setCell c
            { s.cells[c] with count := 0#16 }).place e.job .window (plus e.due window)).arbitrate))

/-- R114, steps 2 and 3: the head of the list leaves it and its pulse begins at `t`, the line active and the cell timing it; a
new head gets its ECHO_DUE entry. -/
def Sys2Proof.Machine.Part.withPulse (p : Part) (j : JobId) (x : EchoParams) (g : EchoProgress) (head : PendingPulse)
    (rest : List PendingPulse) (t : Time) : Part :=
  let q := ((p.setWork j (.echo x { g with
    pendingList := rest, pulse := some { beginTime := t, endTime := plus t head.width } })).driveActive j).setPhase j
      (some { start := t, length := head.width })
  match rest with
  | [] => q
  | next :: _ => q.place j .echoDue next.due

/-- R114: an ECHO_DUE entry begins the pulse of the head of the list at the due time; a pulse still in progress is completed
first, and may end the job at its pulse limit, with LIMIT_REACHED, or HOST_STOP in STOPPING. -/
def Obligations.EchoDueBeginsPulse : Prop :=
  ∀ (s : State) (e : DeadlineEntry) (d : Definition) (p : Part) (x : EchoParams) (g counted : EchoProgress)
    (head : PendingPulse) (rest : List PendingPulse),
    s.FallsDue e d p → e.purpose = .echoDue → s.jobs[e.job].state = .running ∨ s.jobs[e.job].state = .stopping →
    d.work = .echo x g → g.pendingList = head :: rest → counted = { g with pulses := g.pulses + 1#32, pulse := none } →
    (g.pulse = none → exec .echoDue s = .next (s.withPart (p.withPulse e.job x g head rest e.due).arbitrate)) ∧
    (g.pulse ≠ none → x.limit ≠ 0 → counted.pulses.toNat = x.limit →
      exec .echoDue s = .next (s.withPart ((p.setWork e.job (.echo x counted)).endJob e.job
        (if s.jobs[e.job].state = .stopping then .hostStop else .limitReached) e.due 0).arbitrate)) ∧
    (g.pulse ≠ none → x.limit = 0 ∨ counted.pulses.toNat ≠ x.limit →
      exec .echoDue s = .next (s.withPart (p.withPulse e.job x counted head rest e.due).arbitrate))

/-! ### Cell events -/

/-- R100, R102 and R103, with the model's deduction of the turns (log entry 23): the cell of a WAVE job. A turn within a phase
lowers the turns left and nothing else. The end of the active phase drives the line idle and starts the idle phase. The end of
the idle phase counts the pulse, wrapping, and ends the job in STOPPING or at its limit, or begins the next period there, with
a staged pair applied. Before its time, and while turns are left, no phase event takes place; ACTIVE_PHASE_EVENT has an effect
at the end of the active phase only, PERIOD_END at the end of the idle phase only, and TURN_END while turns are left and once
the turn's end is reached only. A job that times no phase with a cell, or is no WAVE job, has none of the three. That a step
which is not due has no effect is the model's deduction (log entry 5). -/
def Obligations.WaveCellEvents : Prop :=
  (∀ (s : State) (j : JobId), (∀ d ph v g, s.Times j d ph → d.work ≠ .wave v g) →
    exec (.turnEnd (j.val + 1)) s = .next s ∧ exec (.activePhaseEvent (j.val + 1)) s = .next s ∧
    exec (.periodEnd (j.val + 1)) s = .next s) ∧
  ∀ (s : State) (j : JobId) (d : Definition) (ph : CellPhase) (v : WaveParams) (g counted : WaveProgress) (t : Time),
    s.Times j d ph → d.work = .wave v g → t = plus ph.start ph.length →
    counted = { g with pulses := g.pulses + 1#32, phase := none, periodStart := none, turnsLeft := 0 } →
    (g.turnsLeft ≠ 0 →
      reached s.time (plus ph.start (65536 * (ph.length / 65536 - g.turnsLeft + 1))) = true →
      exec (.turnEnd (j.val + 1)) s =
        .next (s.withPart (s.setWork j (.wave v { g with turnsLeft := g.turnsLeft - 1 })))) ∧
    (g.turnsLeft = 0 ∨ reached s.time (plus ph.start (65536 * (ph.length / 65536 - g.turnsLeft + 1))) = false →
      exec (.turnEnd (j.val + 1)) s = .next s) ∧
    (g.phase ≠ some .active → exec (.activePhaseEvent (j.val + 1)) s = .next s) ∧
    (g.phase ≠ some .idle → exec (.periodEnd (j.val + 1)) s = .next s) ∧
    (g.turnsLeft ≠ 0 ∨ reached s.time t = false →
      exec (.activePhaseEvent (j.val + 1)) s = .next s ∧ exec (.periodEnd (j.val + 1)) s = .next s) ∧
    (g.turnsLeft = 0 → reached s.time t = true → g.phase = some .active →
      exec (.activePhaseEvent (j.val + 1)) s = .next (s.withPart
        (((s.setWork j (.wave v { g with phase := some .idle, turnsLeft := (v.period - v.width) / 65536 })).driveIdle
          j).setPhase j (some { start := t, length := v.period - v.width })))) ∧
    (g.turnsLeft = 0 → reached s.time t = true → g.phase = some .idle → ∃ q : Part, q = s.setWork j (.wave v counted) ∧
      (s.jobs[j].state = .stopping →
        exec (.periodEnd (j.val + 1)) s = .next (s.withPart (q.endJob j .hostStop t 0).arbitrate)) ∧
      (s.jobs[j].state = .running → v.limit ≠ 0 → counted.pulses.toNat = v.limit →
        exec (.periodEnd (j.val + 1)) s = .next (s.withPart (q.endJob j .limitReached t 0).arbitrate)) ∧
      (s.jobs[j].state = .running → v.limit = 0 ∨ counted.pulses.toNat ≠ v.limit → ∀ v' : WaveParams,
        (s.jobs[j].staged = none ∧ v' = v) ∨
          (∃ period width, s.jobs[j].staged = some (.pair period width) ∧
            v' = { v with period := period, width := width }) →
        exec (.periodEnd (j.val + 1)) s = .next (s.withPart
          (((((q.setStaged j none).setWork j (.wave v' { counted with
            phase := some .active, periodStart := some t, turnsLeft := v'.width / 65536 })).driveActive j).setPhase j
              (some { start := t, length := v'.width }))).arbitrate)))

/-- R115: the end of a pulse counts it, wrapping, and frees the cell; then the job ends at its pulse limit, or in STOPPING
with no entry left, or begins the pulse of a head that is due at that very time, its entry removed, or drives its line idle.
A job that times no phase with a cell, is no ECHO job, or has no pulse in progress, has no PULSE_END. That a step which is not due has no effect is the model's deduction (log entry 5). -/
def Obligations.PulseEndsByOrder : Prop :=
  (∀ (s : State) (j : JobId), (∀ d ph x g, s.Times j d ph → d.work = .echo x g → g.pulse = none) →
    exec (.pulseEnd (j.val + 1)) s = .next s) ∧
  ∀ (s : State) (j : JobId) (d : Definition) (ph : CellPhase) (x : EchoParams) (g counted : EchoProgress) (t : Time) (q : Part),
    s.Times j d ph → d.work = .echo x g → g.pulse ≠ none → t = plus ph.start ph.length →
    counted = { g with pulses := g.pulses + 1#32, pulse := none } →
    q = (s.setWork j (.echo x counted)).setPhase j none →
    (reached s.time t = false → exec (.pulseEnd (j.val + 1)) s = .next s) ∧
    (reached s.time t = true →
      (x.limit ≠ 0 → counted.pulses.toNat = x.limit →
        exec (.pulseEnd (j.val + 1)) s = .next (s.withPart
          (q.endJob j (if s.jobs[j].state = .stopping then .hostStop else .limitReached) t 0).arbitrate)) ∧
      (x.limit = 0 ∨ counted.pulses.toNat ≠ x.limit →
        (g.pendingList = [] → s.jobs[j].state = .stopping →
          exec (.pulseEnd (j.val + 1)) s = .next (s.withPart (q.endJob j .hostStop t 0).arbitrate)) ∧
        (g.pendingList = [] → s.jobs[j].state = .running →
          exec (.pulseEnd (j.val + 1)) s = .next (s.withPart (q.driveIdle j).arbitrate)) ∧
        (∀ head rest, g.pendingList = head :: rest →
          (head.due = t → exec (.pulseEnd (j.val + 1)) s =
            .next (s.withPart ((q.unschedule j).withPulse j x counted head rest t).arbitrate)) ∧
          (head.due ≠ t → exec (.pulseEnd (j.val + 1)) s = .next (s.withPart (q.driveIdle j).arbitrate)))))

/-! ### The retransmit timer and the loss policy -/

/-- R142, R143, R144 and R145: the timer acts once its expiry time is reached; stopped, it never does. The retry count rises
by 1; at or below the limit every SENT entry becomes RESEND and the timer stops; above it the link becomes LOST with the
entries as they are, and the loss policy in force goes out to each of the 32 jobs. That it goes out as 32 applications with
the policy and the time captured, behind those outstanding, is the model's deduction (log entry 13). That a step which is not
due has no effect is the model's deduction (log entry 5). -/
def Obligations.RetransmitTimerExpires : Prop :=
  (∀ s : State, s.reports.timer = none → exec .retransmitTimerExpiry s = .next s) ∧
  ∀ (s : State) (t : Time), s.clocked = true → s.reports.timer = some t →
    (reached s.time t = false → exec .retransmitTimerExpiry s = .next s) ∧
    (reached s.time t = true → s.reports.retry + 1 ≤ s.reports.retryLimit →
      exec .retransmitTimerExpiry s = .next (s.withPart
        (({ s.toPart with reports := { s.reports with
          retry := s.reports.retry + 1, timer := none
          queue := s.reports.queue.map (fun e => if e.delivery = .sent then { e with delivery := .resend } else e) } } :
            Part).arbitrate))) ∧
    (reached s.time t = true → s.reports.retryLimit < s.reports.retry + 1 → ∃ applied : List LossDelivery,
      applied.length = 32 ∧ applied.Nodup ∧ (∀ x ∈ applied, x.policy = s.reports.policy ∧ x.lostAt = t) ∧
      exec .retransmitTimerExpiry s = .next (s.withPart
        (({ s.toPart with reports := { s.reports with
          retry := s.reports.retry + 1, link := .lost, timer := none
          lossDeliveries := s.reports.lossDeliveries ++ applied } } : Part).arbitrate)))

/-- R145: a job takes the application of the loss policy in the state it is in: CONTINUE has no effect; HOLD_ALL holds a
RUNNING job and ends an ARMED or STOPPING one; STOP_ALL ends a live one; each ending is LINK_LOST at the time the link became
LOST. With none outstanding nothing happens. That each application carries the policy and the time of the loss, that it reaches
a job started or resumed since the entry to LOST, and that a step with none outstanding has no effect, are the model's
deductions (log entries 13, 13 and 5). -/
def Obligations.LossPolicyActsByState : Prop :=
  (∀ (s : State) (j : JobId) (policy : LossPolicy) (lostAt : Time) (pre post : List LossDelivery) (p : Part),
    s.reports.lossDeliveries = pre ++ { job := j, policy := policy, lostAt := lostAt } :: post →
    (∀ x ∈ pre, x.job ≠ j) → p = { s.toPart with reports := { s.reports with lossDeliveries := pre ++ post } } →
    (policy = .carryOn ∨ s.jobs[j].state.live = false ∨ (policy = .holdAll ∧ s.jobs[j].state = .held) →
      exec (.lossPolicy (j.val + 1)) s = .next (s.withPart p.arbitrate)) ∧
    (policy = .holdAll → s.jobs[j].state = .running →
      exec (.lossPolicy (j.val + 1)) s = .next (s.withPart (p.holdJob j).arbitrate)) ∧
    (policy = .holdAll → s.jobs[j].state = .armed ∨ s.jobs[j].state = .stopping →
      exec (.lossPolicy (j.val + 1)) s = .next (s.withPart (p.endJob j .linkLost lostAt 0).arbitrate)) ∧
    (policy = .stopAll → s.jobs[j].state.live = true →
      exec (.lossPolicy (j.val + 1)) s = .next (s.withPart (p.endJob j .linkLost lostAt 0).arbitrate))) ∧
  (∀ (s : State) (j : JobId), (∀ x ∈ s.reports.lossDeliveries, x.job ≠ j) →
    exec (.lossPolicy (j.val + 1)) s = .next s)

/-! ### The laws of the whole machine -/

/-- The laws hold right after reset. -/
def Obligations.SoundAtReset : Prop := State.reset.toPart.Sound ∧ State.reset.toPart.TimeLaw

/-- R26: every step keeps the reservation laws: a reservation per live job, counted, and occupancy plus reservations within
64. -/
def Obligations.StepKeepsReservationLaw : Prop :=
  ∀ s t : State, s.ReservationLaw → step s = .next t → t.ReservationLaw

/-- R134, R138 and R142: every step keeps the order, the numbering and the window of the queue, and the timer running exactly
while the link is UP and SENT entries exist. -/
def Obligations.StepKeepsQueueLaw : Prop :=
  ∀ s t : State, s.QueueLaw → step s = .next t → t.QueueLaw

/-- R80, R81 and R110: every step keeps at most one entry per job, for RUNNING or STOPPING jobs only, of the purpose their kind
gives; and, in a sound part, the order of due time of the schedule and of the pending list of each ECHO job, whose entries are
at most 8 and never due before the end of the pulse before them. -/
def Obligations.StepKeepsScheduleLaw : Prop :=
  (∀ s t : State, s.ScheduleLaw → step s = .next t → t.ScheduleLaw) ∧
  ∀ s t : State, s.toPart.Sound → s.TimeLaw → step s = .next t → t.TimeLaw

/-- R39: every step keeps an output line owned exactly while a live job that names it exists, at the idle level while that
job is ARMED or HELD. -/
def Obligations.StepKeepsOutputLaw : Prop :=
  ∀ s t : State, s.OutputLaw → step s = .next t → t.OutputLaw

/-- R23: every step keeps each live job holding exactly the cells its kind needs, and every other cell free with count 0. -/
def Obligations.StepKeepsCellLaw : Prop :=
  ∀ s t : State, s.CellLaw → step s = .next t → t.CellLaw

/-- R1, R3, R4 and R36: every step keeps the records of the jobs consistent with their states. That edges are outstanding to
live jobs only is the model's: an ending drops those its job has not taken (log entry 11, DEDUCED), where R36 has such a
delivery without effect. -/
def Obligations.StepKeepsRecordLaw : Prop :=
  ∀ s t : State, s.RecordLaw → step s = .next t → t.RecordLaw

/-- R154, R155, R157, R158, R159 and R162: every step keeps the port's laws. -/
def Obligations.StepKeepsPortLaw : Prop :=
  ∀ s t : State, s.PortLaw → step s = .next t → t.PortLaw
end

