-- ==== Sys2Proof/Laws/State.lean ====
section
/-! SUPPORT. What each named update of the part leaves as it was, one lemma for each field, and what it writes: the lemmas
later proofs cite instead of unfolding an update. -/

namespace Sys2Proof.Machine

open Sys2Proof

/-! ### Job records -/

@[simp] theorem Part.setJob_time (p : Part) (j : JobId) (b : Job) : (p.setJob j b).time = p.time := rfl
@[simp] theorem Part.setJob_refclk (p : Part) (j : JobId) (b : Job) : (p.setJob j b).refclk = p.refclk := rfl
@[simp] theorem Part.setJob_resetHold (p : Part) (j : JobId) (b : Job) : (p.setJob j b).resetHold = p.resetHold := rfl
@[simp] theorem Part.setJob_resetN (p : Part) (j : JobId) (b : Job) : (p.setJob j b).resetN = p.resetN := rfl
@[simp] theorem Part.setJob_inputs (p : Part) (j : JobId) (b : Job) : (p.setJob j b).inputs = p.inputs := rfl
@[simp] theorem Part.setJob_deliveries (p : Part) (j : JobId) (b : Job) : (p.setJob j b).deliveries = p.deliveries := rfl
@[simp] theorem Part.setJob_outputs (p : Part) (j : JobId) (b : Job) : (p.setJob j b).outputs = p.outputs := rfl
@[simp] theorem Part.setJob_cells (p : Part) (j : JobId) (b : Job) : (p.setJob j b).cells = p.cells := rfl
@[simp] theorem Part.setJob_schedule (p : Part) (j : JobId) (b : Job) : (p.setJob j b).schedule = p.schedule := rfl
@[simp] theorem Part.setJob_reports (p : Part) (j : JobId) (b : Job) : (p.setJob j b).reports = p.reports := rfl
@[simp] theorem Part.setJob_port (p : Part) (j : JobId) (b : Job) : (p.setJob j b).port = p.port := rfl
@[simp] theorem Part.setJob_choices (p : Part) (j : JobId) (b : Job) : (p.setJob j b).choices = p.choices := rfl

@[simp] theorem Part.setWork_time (p : Part) (j : JobId) (w : Work) : (p.setWork j w).time = p.time := rfl
@[simp] theorem Part.setWork_refclk (p : Part) (j : JobId) (w : Work) : (p.setWork j w).refclk = p.refclk := rfl
@[simp] theorem Part.setWork_resetHold (p : Part) (j : JobId) (w : Work) : (p.setWork j w).resetHold = p.resetHold := rfl
@[simp] theorem Part.setWork_resetN (p : Part) (j : JobId) (w : Work) : (p.setWork j w).resetN = p.resetN := rfl
@[simp] theorem Part.setWork_inputs (p : Part) (j : JobId) (w : Work) : (p.setWork j w).inputs = p.inputs := rfl
@[simp] theorem Part.setWork_deliveries (p : Part) (j : JobId) (w : Work) : (p.setWork j w).deliveries = p.deliveries := rfl
@[simp] theorem Part.setWork_outputs (p : Part) (j : JobId) (w : Work) : (p.setWork j w).outputs = p.outputs := rfl
@[simp] theorem Part.setWork_cells (p : Part) (j : JobId) (w : Work) : (p.setWork j w).cells = p.cells := rfl
@[simp] theorem Part.setWork_schedule (p : Part) (j : JobId) (w : Work) : (p.setWork j w).schedule = p.schedule := rfl
@[simp] theorem Part.setWork_reports (p : Part) (j : JobId) (w : Work) : (p.setWork j w).reports = p.reports := rfl
@[simp] theorem Part.setWork_port (p : Part) (j : JobId) (w : Work) : (p.setWork j w).port = p.port := rfl
@[simp] theorem Part.setWork_choices (p : Part) (j : JobId) (w : Work) : (p.setWork j w).choices = p.choices := rfl

@[simp] theorem Part.setState_time (p : Part) (j : JobId) (st : JobState) : (p.setState j st).time = p.time := rfl
@[simp] theorem Part.setState_refclk (p : Part) (j : JobId) (st : JobState) : (p.setState j st).refclk = p.refclk := rfl
@[simp] theorem Part.setState_resetHold (p : Part) (j : JobId) (st : JobState) :
    (p.setState j st).resetHold = p.resetHold := rfl
@[simp] theorem Part.setState_resetN (p : Part) (j : JobId) (st : JobState) : (p.setState j st).resetN = p.resetN := rfl
@[simp] theorem Part.setState_inputs (p : Part) (j : JobId) (st : JobState) : (p.setState j st).inputs = p.inputs := rfl
@[simp] theorem Part.setState_deliveries (p : Part) (j : JobId) (st : JobState) :
    (p.setState j st).deliveries = p.deliveries := rfl
@[simp] theorem Part.setState_outputs (p : Part) (j : JobId) (st : JobState) : (p.setState j st).outputs = p.outputs := rfl
@[simp] theorem Part.setState_cells (p : Part) (j : JobId) (st : JobState) : (p.setState j st).cells = p.cells := rfl
@[simp] theorem Part.setState_schedule (p : Part) (j : JobId) (st : JobState) : (p.setState j st).schedule = p.schedule := rfl
@[simp] theorem Part.setState_reports (p : Part) (j : JobId) (st : JobState) : (p.setState j st).reports = p.reports := rfl
@[simp] theorem Part.setState_port (p : Part) (j : JobId) (st : JobState) : (p.setState j st).port = p.port := rfl
@[simp] theorem Part.setState_choices (p : Part) (j : JobId) (st : JobState) : (p.setState j st).choices = p.choices := rfl

@[simp] theorem Part.setStaged_time (p : Part) (j : JobId) (staged : Option Staged) :
    (p.setStaged j staged).time = p.time := rfl
@[simp] theorem Part.setStaged_refclk (p : Part) (j : JobId) (staged : Option Staged) :
    (p.setStaged j staged).refclk = p.refclk := rfl
@[simp] theorem Part.setStaged_resetHold (p : Part) (j : JobId) (staged : Option Staged) :
    (p.setStaged j staged).resetHold = p.resetHold := rfl
@[simp] theorem Part.setStaged_resetN (p : Part) (j : JobId) (staged : Option Staged) :
    (p.setStaged j staged).resetN = p.resetN := rfl
@[simp] theorem Part.setStaged_inputs (p : Part) (j : JobId) (staged : Option Staged) :
    (p.setStaged j staged).inputs = p.inputs := rfl
@[simp] theorem Part.setStaged_deliveries (p : Part) (j : JobId) (staged : Option Staged) :
    (p.setStaged j staged).deliveries = p.deliveries := rfl
@[simp] theorem Part.setStaged_outputs (p : Part) (j : JobId) (staged : Option Staged) :
    (p.setStaged j staged).outputs = p.outputs := rfl
@[simp] theorem Part.setStaged_cells (p : Part) (j : JobId) (staged : Option Staged) :
    (p.setStaged j staged).cells = p.cells := rfl
@[simp] theorem Part.setStaged_schedule (p : Part) (j : JobId) (staged : Option Staged) :
    (p.setStaged j staged).schedule = p.schedule := rfl
@[simp] theorem Part.setStaged_reports (p : Part) (j : JobId) (staged : Option Staged) :
    (p.setStaged j staged).reports = p.reports := rfl
@[simp] theorem Part.setStaged_port (p : Part) (j : JobId) (staged : Option Staged) :
    (p.setStaged j staged).port = p.port := rfl
@[simp] theorem Part.setStaged_choices (p : Part) (j : JobId) (staged : Option Staged) :
    (p.setStaged j staged).choices = p.choices := rfl

@[simp] theorem Part.setLost_time (p : Part) (j : JobId) (lost : Nat) : (p.setLost j lost).time = p.time := rfl
@[simp] theorem Part.setLost_refclk (p : Part) (j : JobId) (lost : Nat) : (p.setLost j lost).refclk = p.refclk := rfl
@[simp] theorem Part.setLost_resetHold (p : Part) (j : JobId) (lost : Nat) : (p.setLost j lost).resetHold = p.resetHold := rfl
@[simp] theorem Part.setLost_resetN (p : Part) (j : JobId) (lost : Nat) : (p.setLost j lost).resetN = p.resetN := rfl
@[simp] theorem Part.setLost_inputs (p : Part) (j : JobId) (lost : Nat) : (p.setLost j lost).inputs = p.inputs := rfl
@[simp] theorem Part.setLost_deliveries (p : Part) (j : JobId) (lost : Nat) :
    (p.setLost j lost).deliveries = p.deliveries := rfl
@[simp] theorem Part.setLost_outputs (p : Part) (j : JobId) (lost : Nat) : (p.setLost j lost).outputs = p.outputs := rfl
@[simp] theorem Part.setLost_cells (p : Part) (j : JobId) (lost : Nat) : (p.setLost j lost).cells = p.cells := rfl
@[simp] theorem Part.setLost_schedule (p : Part) (j : JobId) (lost : Nat) : (p.setLost j lost).schedule = p.schedule := rfl
@[simp] theorem Part.setLost_reports (p : Part) (j : JobId) (lost : Nat) : (p.setLost j lost).reports = p.reports := rfl
@[simp] theorem Part.setLost_port (p : Part) (j : JobId) (lost : Nat) : (p.setLost j lost).port = p.port := rfl
@[simp] theorem Part.setLost_choices (p : Part) (j : JobId) (lost : Nat) : (p.setLost j lost).choices = p.choices := rfl

/-! ### Output lines -/

@[simp] theorem Part.setOutput_time (p : Part) (o : OutId) (l : OutputLine) : (p.setOutput o l).time = p.time := rfl
@[simp] theorem Part.setOutput_refclk (p : Part) (o : OutId) (l : OutputLine) : (p.setOutput o l).refclk = p.refclk := rfl
@[simp] theorem Part.setOutput_resetHold (p : Part) (o : OutId) (l : OutputLine) :
    (p.setOutput o l).resetHold = p.resetHold := rfl
@[simp] theorem Part.setOutput_resetN (p : Part) (o : OutId) (l : OutputLine) : (p.setOutput o l).resetN = p.resetN := rfl
@[simp] theorem Part.setOutput_inputs (p : Part) (o : OutId) (l : OutputLine) : (p.setOutput o l).inputs = p.inputs := rfl
@[simp] theorem Part.setOutput_deliveries (p : Part) (o : OutId) (l : OutputLine) :
    (p.setOutput o l).deliveries = p.deliveries := rfl
@[simp] theorem Part.setOutput_cells (p : Part) (o : OutId) (l : OutputLine) : (p.setOutput o l).cells = p.cells := rfl
@[simp] theorem Part.setOutput_jobs (p : Part) (o : OutId) (l : OutputLine) : (p.setOutput o l).jobs = p.jobs := rfl
@[simp] theorem Part.setOutput_schedule (p : Part) (o : OutId) (l : OutputLine) : (p.setOutput o l).schedule = p.schedule := rfl
@[simp] theorem Part.setOutput_reports (p : Part) (o : OutId) (l : OutputLine) : (p.setOutput o l).reports = p.reports := rfl
@[simp] theorem Part.setOutput_port (p : Part) (o : OutId) (l : OutputLine) : (p.setOutput o l).port = p.port := rfl
@[simp] theorem Part.setOutput_choices (p : Part) (o : OutId) (l : OutputLine) : (p.setOutput o l).choices = p.choices := rfl

@[simp] theorem Part.driveIdle_time (p : Part) (j : JobId) : (p.driveIdle j).time = p.time := by
  unfold Part.driveIdle; split <;> rfl
@[simp] theorem Part.driveIdle_refclk (p : Part) (j : JobId) : (p.driveIdle j).refclk = p.refclk := by
  unfold Part.driveIdle; split <;> rfl
@[simp] theorem Part.driveIdle_resetHold (p : Part) (j : JobId) : (p.driveIdle j).resetHold = p.resetHold := by
  unfold Part.driveIdle; split <;> rfl
@[simp] theorem Part.driveIdle_resetN (p : Part) (j : JobId) : (p.driveIdle j).resetN = p.resetN := by
  unfold Part.driveIdle; split <;> rfl
@[simp] theorem Part.driveIdle_inputs (p : Part) (j : JobId) : (p.driveIdle j).inputs = p.inputs := by
  unfold Part.driveIdle; split <;> rfl
@[simp] theorem Part.driveIdle_deliveries (p : Part) (j : JobId) : (p.driveIdle j).deliveries = p.deliveries := by
  unfold Part.driveIdle; split <;> rfl
@[simp] theorem Part.driveIdle_cells (p : Part) (j : JobId) : (p.driveIdle j).cells = p.cells := by
  unfold Part.driveIdle; split <;> rfl
@[simp] theorem Part.driveIdle_jobs (p : Part) (j : JobId) : (p.driveIdle j).jobs = p.jobs := by
  unfold Part.driveIdle; split <;> rfl
@[simp] theorem Part.driveIdle_schedule (p : Part) (j : JobId) : (p.driveIdle j).schedule = p.schedule := by
  unfold Part.driveIdle; split <;> rfl
@[simp] theorem Part.driveIdle_reports (p : Part) (j : JobId) : (p.driveIdle j).reports = p.reports := by
  unfold Part.driveIdle; split <;> rfl
@[simp] theorem Part.driveIdle_port (p : Part) (j : JobId) : (p.driveIdle j).port = p.port := by
  unfold Part.driveIdle; split <;> rfl
@[simp] theorem Part.driveIdle_choices (p : Part) (j : JobId) : (p.driveIdle j).choices = p.choices := by
  unfold Part.driveIdle; split <;> rfl

@[simp] theorem Part.driveActive_time (p : Part) (j : JobId) : (p.driveActive j).time = p.time := by
  unfold Part.driveActive; split <;> rfl
@[simp] theorem Part.driveActive_refclk (p : Part) (j : JobId) : (p.driveActive j).refclk = p.refclk := by
  unfold Part.driveActive; split <;> rfl
@[simp] theorem Part.driveActive_resetHold (p : Part) (j : JobId) : (p.driveActive j).resetHold = p.resetHold := by
  unfold Part.driveActive; split <;> rfl
@[simp] theorem Part.driveActive_resetN (p : Part) (j : JobId) : (p.driveActive j).resetN = p.resetN := by
  unfold Part.driveActive; split <;> rfl
@[simp] theorem Part.driveActive_inputs (p : Part) (j : JobId) : (p.driveActive j).inputs = p.inputs := by
  unfold Part.driveActive; split <;> rfl
@[simp] theorem Part.driveActive_deliveries (p : Part) (j : JobId) : (p.driveActive j).deliveries = p.deliveries := by
  unfold Part.driveActive; split <;> rfl
@[simp] theorem Part.driveActive_cells (p : Part) (j : JobId) : (p.driveActive j).cells = p.cells := by
  unfold Part.driveActive; split <;> rfl
@[simp] theorem Part.driveActive_jobs (p : Part) (j : JobId) : (p.driveActive j).jobs = p.jobs := by
  unfold Part.driveActive; split <;> rfl
@[simp] theorem Part.driveActive_schedule (p : Part) (j : JobId) : (p.driveActive j).schedule = p.schedule := by
  unfold Part.driveActive; split <;> rfl
@[simp] theorem Part.driveActive_reports (p : Part) (j : JobId) : (p.driveActive j).reports = p.reports := by
  unfold Part.driveActive; split <;> rfl
@[simp] theorem Part.driveActive_port (p : Part) (j : JobId) : (p.driveActive j).port = p.port := by
  unfold Part.driveActive; split <;> rfl
@[simp] theorem Part.driveActive_choices (p : Part) (j : JobId) : (p.driveActive j).choices = p.choices := by
  unfold Part.driveActive; split <;> rfl

@[simp] theorem Part.releaseLine_time (p : Part) (j : JobId) : (p.releaseLine j).time = p.time := by
  unfold Part.releaseLine; split <;> rfl
@[simp] theorem Part.releaseLine_refclk (p : Part) (j : JobId) : (p.releaseLine j).refclk = p.refclk := by
  unfold Part.releaseLine; split <;> rfl
@[simp] theorem Part.releaseLine_resetHold (p : Part) (j : JobId) : (p.releaseLine j).resetHold = p.resetHold := by
  unfold Part.releaseLine; split <;> rfl
@[simp] theorem Part.releaseLine_resetN (p : Part) (j : JobId) : (p.releaseLine j).resetN = p.resetN := by
  unfold Part.releaseLine; split <;> rfl
@[simp] theorem Part.releaseLine_inputs (p : Part) (j : JobId) : (p.releaseLine j).inputs = p.inputs := by
  unfold Part.releaseLine; split <;> rfl
@[simp] theorem Part.releaseLine_deliveries (p : Part) (j : JobId) : (p.releaseLine j).deliveries = p.deliveries := by
  unfold Part.releaseLine; split <;> rfl
@[simp] theorem Part.releaseLine_cells (p : Part) (j : JobId) : (p.releaseLine j).cells = p.cells := by
  unfold Part.releaseLine; split <;> rfl
@[simp] theorem Part.releaseLine_jobs (p : Part) (j : JobId) : (p.releaseLine j).jobs = p.jobs := by
  unfold Part.releaseLine; split <;> rfl
@[simp] theorem Part.releaseLine_schedule (p : Part) (j : JobId) : (p.releaseLine j).schedule = p.schedule := by
  unfold Part.releaseLine; split <;> rfl
@[simp] theorem Part.releaseLine_reports (p : Part) (j : JobId) : (p.releaseLine j).reports = p.reports := by
  unfold Part.releaseLine; split <;> rfl
@[simp] theorem Part.releaseLine_port (p : Part) (j : JobId) : (p.releaseLine j).port = p.port := by
  unfold Part.releaseLine; split <;> rfl
@[simp] theorem Part.releaseLine_choices (p : Part) (j : JobId) : (p.releaseLine j).choices = p.choices := by
  unfold Part.releaseLine; split <;> rfl

/-! ### Cells -/

@[simp] theorem Part.setCell_time (p : Part) (c : CellId) (x : Cell) : (p.setCell c x).time = p.time := rfl
@[simp] theorem Part.setCell_refclk (p : Part) (c : CellId) (x : Cell) : (p.setCell c x).refclk = p.refclk := rfl
@[simp] theorem Part.setCell_resetHold (p : Part) (c : CellId) (x : Cell) : (p.setCell c x).resetHold = p.resetHold := rfl
@[simp] theorem Part.setCell_resetN (p : Part) (c : CellId) (x : Cell) : (p.setCell c x).resetN = p.resetN := rfl
@[simp] theorem Part.setCell_inputs (p : Part) (c : CellId) (x : Cell) : (p.setCell c x).inputs = p.inputs := rfl
@[simp] theorem Part.setCell_deliveries (p : Part) (c : CellId) (x : Cell) : (p.setCell c x).deliveries = p.deliveries := rfl
@[simp] theorem Part.setCell_outputs (p : Part) (c : CellId) (x : Cell) : (p.setCell c x).outputs = p.outputs := rfl
@[simp] theorem Part.setCell_jobs (p : Part) (c : CellId) (x : Cell) : (p.setCell c x).jobs = p.jobs := rfl
@[simp] theorem Part.setCell_schedule (p : Part) (c : CellId) (x : Cell) : (p.setCell c x).schedule = p.schedule := rfl
@[simp] theorem Part.setCell_reports (p : Part) (c : CellId) (x : Cell) : (p.setCell c x).reports = p.reports := rfl
@[simp] theorem Part.setCell_port (p : Part) (c : CellId) (x : Cell) : (p.setCell c x).port = p.port := rfl
@[simp] theorem Part.setCell_choices (p : Part) (c : CellId) (x : Cell) : (p.setCell c x).choices = p.choices := rfl

@[simp] theorem Part.giveCells_time (p : Part) (j : JobId) (cs : List CellId) : (p.giveCells j cs).time = p.time := by
  simp only [Part.giveCells]
@[simp] theorem Part.giveCells_refclk (p : Part) (j : JobId) (cs : List CellId) : (p.giveCells j cs).refclk = p.refclk := by
  simp only [Part.giveCells]
@[simp] theorem Part.giveCells_resetHold (p : Part) (j : JobId) (cs : List CellId) :
    (p.giveCells j cs).resetHold = p.resetHold := by
  simp only [Part.giveCells]
@[simp] theorem Part.giveCells_resetN (p : Part) (j : JobId) (cs : List CellId) : (p.giveCells j cs).resetN = p.resetN := by
  simp only [Part.giveCells]
@[simp] theorem Part.giveCells_inputs (p : Part) (j : JobId) (cs : List CellId) : (p.giveCells j cs).inputs = p.inputs := by
  simp only [Part.giveCells]
@[simp] theorem Part.giveCells_deliveries (p : Part) (j : JobId) (cs : List CellId) :
    (p.giveCells j cs).deliveries = p.deliveries := by
  simp only [Part.giveCells]
@[simp] theorem Part.giveCells_outputs (p : Part) (j : JobId) (cs : List CellId) : (p.giveCells j cs).outputs = p.outputs := by
  simp only [Part.giveCells]
@[simp] theorem Part.giveCells_jobs (p : Part) (j : JobId) (cs : List CellId) : (p.giveCells j cs).jobs = p.jobs := by
  simp only [Part.giveCells]
@[simp] theorem Part.giveCells_schedule (p : Part) (j : JobId) (cs : List CellId) :
    (p.giveCells j cs).schedule = p.schedule := by
  simp only [Part.giveCells]
@[simp] theorem Part.giveCells_reports (p : Part) (j : JobId) (cs : List CellId) : (p.giveCells j cs).reports = p.reports := by
  simp only [Part.giveCells]
@[simp] theorem Part.giveCells_port (p : Part) (j : JobId) (cs : List CellId) : (p.giveCells j cs).port = p.port := by
  simp only [Part.giveCells]
@[simp] theorem Part.giveCells_choices (p : Part) (j : JobId) (cs : List CellId) : (p.giveCells j cs).choices = p.choices := by
  simp only [Part.giveCells]

@[simp] theorem Part.freeCellsOf_time (p : Part) (j : JobId) : (p.freeCellsOf j).time = p.time := rfl
@[simp] theorem Part.freeCellsOf_refclk (p : Part) (j : JobId) : (p.freeCellsOf j).refclk = p.refclk := rfl
@[simp] theorem Part.freeCellsOf_resetHold (p : Part) (j : JobId) : (p.freeCellsOf j).resetHold = p.resetHold := rfl
@[simp] theorem Part.freeCellsOf_resetN (p : Part) (j : JobId) : (p.freeCellsOf j).resetN = p.resetN := rfl
@[simp] theorem Part.freeCellsOf_inputs (p : Part) (j : JobId) : (p.freeCellsOf j).inputs = p.inputs := rfl
@[simp] theorem Part.freeCellsOf_deliveries (p : Part) (j : JobId) : (p.freeCellsOf j).deliveries = p.deliveries := rfl
@[simp] theorem Part.freeCellsOf_outputs (p : Part) (j : JobId) : (p.freeCellsOf j).outputs = p.outputs := rfl
@[simp] theorem Part.freeCellsOf_schedule (p : Part) (j : JobId) : (p.freeCellsOf j).schedule = p.schedule := rfl
@[simp] theorem Part.freeCellsOf_reports (p : Part) (j : JobId) : (p.freeCellsOf j).reports = p.reports := rfl
@[simp] theorem Part.freeCellsOf_port (p : Part) (j : JobId) : (p.freeCellsOf j).port = p.port := rfl
@[simp] theorem Part.freeCellsOf_choices (p : Part) (j : JobId) : (p.freeCellsOf j).choices = p.choices := rfl

@[simp] theorem Part.zeroCount_time (p : Part) (j : JobId) : (p.zeroCount j).time = p.time := by
  unfold Part.zeroCount; split <;> rfl
@[simp] theorem Part.zeroCount_refclk (p : Part) (j : JobId) : (p.zeroCount j).refclk = p.refclk := by
  unfold Part.zeroCount; split <;> rfl
@[simp] theorem Part.zeroCount_resetHold (p : Part) (j : JobId) : (p.zeroCount j).resetHold = p.resetHold := by
  unfold Part.zeroCount; split <;> rfl
@[simp] theorem Part.zeroCount_resetN (p : Part) (j : JobId) : (p.zeroCount j).resetN = p.resetN := by
  unfold Part.zeroCount; split <;> rfl
@[simp] theorem Part.zeroCount_inputs (p : Part) (j : JobId) : (p.zeroCount j).inputs = p.inputs := by
  unfold Part.zeroCount; split <;> rfl
@[simp] theorem Part.zeroCount_deliveries (p : Part) (j : JobId) : (p.zeroCount j).deliveries = p.deliveries := by
  unfold Part.zeroCount; split <;> rfl
@[simp] theorem Part.zeroCount_outputs (p : Part) (j : JobId) : (p.zeroCount j).outputs = p.outputs := by
  unfold Part.zeroCount; split <;> rfl
@[simp] theorem Part.zeroCount_jobs (p : Part) (j : JobId) : (p.zeroCount j).jobs = p.jobs := by
  unfold Part.zeroCount; split <;> rfl
@[simp] theorem Part.zeroCount_schedule (p : Part) (j : JobId) : (p.zeroCount j).schedule = p.schedule := by
  unfold Part.zeroCount; split <;> rfl
@[simp] theorem Part.zeroCount_reports (p : Part) (j : JobId) : (p.zeroCount j).reports = p.reports := by
  unfold Part.zeroCount; split <;> rfl
@[simp] theorem Part.zeroCount_port (p : Part) (j : JobId) : (p.zeroCount j).port = p.port := by
  unfold Part.zeroCount; split <;> rfl
@[simp] theorem Part.zeroCount_choices (p : Part) (j : JobId) : (p.zeroCount j).choices = p.choices := by
  unfold Part.zeroCount; split <;> rfl

@[simp] theorem Part.setPhase_time (p : Part) (j : JobId) (ph : Option CellPhase) : (p.setPhase j ph).time = p.time := by
  unfold Part.setPhase; split <;> rfl
@[simp] theorem Part.setPhase_refclk (p : Part) (j : JobId) (ph : Option CellPhase) : (p.setPhase j ph).refclk = p.refclk := by
  unfold Part.setPhase; split <;> rfl
@[simp] theorem Part.setPhase_resetHold (p : Part) (j : JobId) (ph : Option CellPhase) :
    (p.setPhase j ph).resetHold = p.resetHold := by
  unfold Part.setPhase; split <;> rfl
@[simp] theorem Part.setPhase_resetN (p : Part) (j : JobId) (ph : Option CellPhase) : (p.setPhase j ph).resetN = p.resetN := by
  unfold Part.setPhase; split <;> rfl
@[simp] theorem Part.setPhase_inputs (p : Part) (j : JobId) (ph : Option CellPhase) : (p.setPhase j ph).inputs = p.inputs := by
  unfold Part.setPhase; split <;> rfl
@[simp] theorem Part.setPhase_deliveries (p : Part) (j : JobId) (ph : Option CellPhase) :
    (p.setPhase j ph).deliveries = p.deliveries := by
  unfold Part.setPhase; split <;> rfl
@[simp] theorem Part.setPhase_outputs (p : Part) (j : JobId) (ph : Option CellPhase) :
    (p.setPhase j ph).outputs = p.outputs := by
  unfold Part.setPhase; split <;> rfl
@[simp] theorem Part.setPhase_jobs (p : Part) (j : JobId) (ph : Option CellPhase) : (p.setPhase j ph).jobs = p.jobs := by
  unfold Part.setPhase; split <;> rfl
@[simp] theorem Part.setPhase_schedule (p : Part) (j : JobId) (ph : Option CellPhase) :
    (p.setPhase j ph).schedule = p.schedule := by
  unfold Part.setPhase; split <;> rfl
@[simp] theorem Part.setPhase_reports (p : Part) (j : JobId) (ph : Option CellPhase) :
    (p.setPhase j ph).reports = p.reports := by
  unfold Part.setPhase; split <;> rfl
@[simp] theorem Part.setPhase_port (p : Part) (j : JobId) (ph : Option CellPhase) : (p.setPhase j ph).port = p.port := by
  unfold Part.setPhase; split <;> rfl
@[simp] theorem Part.setPhase_choices (p : Part) (j : JobId) (ph : Option CellPhase) :
    (p.setPhase j ph).choices = p.choices := by
  unfold Part.setPhase; split <;> rfl

/-! ### The Deadline Schedule -/

@[simp] theorem Part.unschedule_time (p : Part) (j : JobId) : (p.unschedule j).time = p.time := rfl
@[simp] theorem Part.unschedule_refclk (p : Part) (j : JobId) : (p.unschedule j).refclk = p.refclk := rfl
@[simp] theorem Part.unschedule_resetHold (p : Part) (j : JobId) : (p.unschedule j).resetHold = p.resetHold := rfl
@[simp] theorem Part.unschedule_resetN (p : Part) (j : JobId) : (p.unschedule j).resetN = p.resetN := rfl
@[simp] theorem Part.unschedule_inputs (p : Part) (j : JobId) : (p.unschedule j).inputs = p.inputs := rfl
@[simp] theorem Part.unschedule_deliveries (p : Part) (j : JobId) : (p.unschedule j).deliveries = p.deliveries := rfl
@[simp] theorem Part.unschedule_outputs (p : Part) (j : JobId) : (p.unschedule j).outputs = p.outputs := rfl
@[simp] theorem Part.unschedule_cells (p : Part) (j : JobId) : (p.unschedule j).cells = p.cells := rfl
@[simp] theorem Part.unschedule_jobs (p : Part) (j : JobId) : (p.unschedule j).jobs = p.jobs := rfl
@[simp] theorem Part.unschedule_reports (p : Part) (j : JobId) : (p.unschedule j).reports = p.reports := rfl
@[simp] theorem Part.unschedule_port (p : Part) (j : JobId) : (p.unschedule j).port = p.port := rfl
@[simp] theorem Part.unschedule_choices (p : Part) (j : JobId) : (p.unschedule j).choices = p.choices := rfl

@[simp] theorem Part.place_time (p : Part) (j : JobId) (purpose : Purpose) (due : Time) :
    (p.place j purpose due).time = p.time := rfl
@[simp] theorem Part.place_refclk (p : Part) (j : JobId) (purpose : Purpose) (due : Time) :
    (p.place j purpose due).refclk = p.refclk := rfl
@[simp] theorem Part.place_resetHold (p : Part) (j : JobId) (purpose : Purpose) (due : Time) :
    (p.place j purpose due).resetHold = p.resetHold := rfl
@[simp] theorem Part.place_resetN (p : Part) (j : JobId) (purpose : Purpose) (due : Time) :
    (p.place j purpose due).resetN = p.resetN := rfl
@[simp] theorem Part.place_inputs (p : Part) (j : JobId) (purpose : Purpose) (due : Time) :
    (p.place j purpose due).inputs = p.inputs := rfl
@[simp] theorem Part.place_deliveries (p : Part) (j : JobId) (purpose : Purpose) (due : Time) :
    (p.place j purpose due).deliveries = p.deliveries := rfl
@[simp] theorem Part.place_outputs (p : Part) (j : JobId) (purpose : Purpose) (due : Time) :
    (p.place j purpose due).outputs = p.outputs := rfl
@[simp] theorem Part.place_cells (p : Part) (j : JobId) (purpose : Purpose) (due : Time) :
    (p.place j purpose due).cells = p.cells := rfl
@[simp] theorem Part.place_jobs (p : Part) (j : JobId) (purpose : Purpose) (due : Time) :
    (p.place j purpose due).jobs = p.jobs := rfl
@[simp] theorem Part.place_reports (p : Part) (j : JobId) (purpose : Purpose) (due : Time) :
    (p.place j purpose due).reports = p.reports := rfl
@[simp] theorem Part.place_port (p : Part) (j : JobId) (purpose : Purpose) (due : Time) :
    (p.place j purpose due).port = p.port := rfl
@[simp] theorem Part.place_choices (p : Part) (j : JobId) (purpose : Purpose) (due : Time) :
    (p.place j purpose due).choices = p.choices := rfl

@[simp] theorem Part.popEntry_time (p : Part) : (p.popEntry).time = p.time := rfl
@[simp] theorem Part.popEntry_refclk (p : Part) : (p.popEntry).refclk = p.refclk := rfl
@[simp] theorem Part.popEntry_resetHold (p : Part) : (p.popEntry).resetHold = p.resetHold := rfl
@[simp] theorem Part.popEntry_resetN (p : Part) : (p.popEntry).resetN = p.resetN := rfl
@[simp] theorem Part.popEntry_inputs (p : Part) : (p.popEntry).inputs = p.inputs := rfl
@[simp] theorem Part.popEntry_deliveries (p : Part) : (p.popEntry).deliveries = p.deliveries := rfl
@[simp] theorem Part.popEntry_outputs (p : Part) : (p.popEntry).outputs = p.outputs := rfl
@[simp] theorem Part.popEntry_cells (p : Part) : (p.popEntry).cells = p.cells := rfl
@[simp] theorem Part.popEntry_jobs (p : Part) : (p.popEntry).jobs = p.jobs := rfl
@[simp] theorem Part.popEntry_reports (p : Part) : (p.popEntry).reports = p.reports := rfl
@[simp] theorem Part.popEntry_port (p : Part) : (p.popEntry).port = p.port := rfl
@[simp] theorem Part.popEntry_choices (p : Part) : (p.popEntry).choices = p.choices := rfl

/-! ### Reports -/

@[simp] theorem Part.enqueue_time (p : Part) (job : Option JobId) (run : BitVec 8) (time : Time) (lost : Nat) (content : ReportContent) :
    (p.enqueue job run time lost content).time = p.time := rfl
@[simp] theorem Part.enqueue_refclk (p : Part) (job : Option JobId) (run : BitVec 8) (time : Time) (lost : Nat) (content : ReportContent) :
    (p.enqueue job run time lost content).refclk = p.refclk := rfl
@[simp] theorem Part.enqueue_resetHold (p : Part) (job : Option JobId) (run : BitVec 8) (time : Time) (lost : Nat) (content : ReportContent) :
    (p.enqueue job run time lost content).resetHold = p.resetHold := rfl
@[simp] theorem Part.enqueue_resetN (p : Part) (job : Option JobId) (run : BitVec 8) (time : Time) (lost : Nat) (content : ReportContent) :
    (p.enqueue job run time lost content).resetN = p.resetN := rfl
@[simp] theorem Part.enqueue_inputs (p : Part) (job : Option JobId) (run : BitVec 8) (time : Time) (lost : Nat) (content : ReportContent) :
    (p.enqueue job run time lost content).inputs = p.inputs := rfl
@[simp] theorem Part.enqueue_deliveries (p : Part) (job : Option JobId) (run : BitVec 8) (time : Time) (lost : Nat) (content : ReportContent) :
    (p.enqueue job run time lost content).deliveries = p.deliveries := rfl
@[simp] theorem Part.enqueue_outputs (p : Part) (job : Option JobId) (run : BitVec 8) (time : Time) (lost : Nat) (content : ReportContent) :
    (p.enqueue job run time lost content).outputs = p.outputs := rfl
@[simp] theorem Part.enqueue_cells (p : Part) (job : Option JobId) (run : BitVec 8) (time : Time) (lost : Nat) (content : ReportContent) :
    (p.enqueue job run time lost content).cells = p.cells := rfl
@[simp] theorem Part.enqueue_jobs (p : Part) (job : Option JobId) (run : BitVec 8) (time : Time) (lost : Nat) (content : ReportContent) :
    (p.enqueue job run time lost content).jobs = p.jobs := rfl
@[simp] theorem Part.enqueue_schedule (p : Part) (job : Option JobId) (run : BitVec 8) (time : Time) (lost : Nat) (content : ReportContent) :
    (p.enqueue job run time lost content).schedule = p.schedule := rfl
@[simp] theorem Part.enqueue_port (p : Part) (job : Option JobId) (run : BitVec 8) (time : Time) (lost : Nat) (content : ReportContent) :
    (p.enqueue job run time lost content).port = p.port := rfl
@[simp] theorem Part.enqueue_choices (p : Part) (job : Option JobId) (run : BitVec 8) (time : Time) (lost : Nat) (content : ReportContent) :
    (p.enqueue job run time lost content).choices = p.choices := rfl

@[simp] theorem Part.admitEnd_time (p : Part) (j : JobId) (cause : EndCause) (final : Nat) (aux : Nat) (time : Time) :
    (p.admitEnd j cause final aux time).time = p.time := rfl
@[simp] theorem Part.admitEnd_refclk (p : Part) (j : JobId) (cause : EndCause) (final : Nat) (aux : Nat) (time : Time) :
    (p.admitEnd j cause final aux time).refclk = p.refclk := rfl
@[simp] theorem Part.admitEnd_resetHold (p : Part) (j : JobId) (cause : EndCause) (final : Nat) (aux : Nat) (time : Time) :
    (p.admitEnd j cause final aux time).resetHold = p.resetHold := rfl
@[simp] theorem Part.admitEnd_resetN (p : Part) (j : JobId) (cause : EndCause) (final : Nat) (aux : Nat) (time : Time) :
    (p.admitEnd j cause final aux time).resetN = p.resetN := rfl
@[simp] theorem Part.admitEnd_inputs (p : Part) (j : JobId) (cause : EndCause) (final : Nat) (aux : Nat) (time : Time) :
    (p.admitEnd j cause final aux time).inputs = p.inputs := rfl
@[simp] theorem Part.admitEnd_deliveries (p : Part) (j : JobId) (cause : EndCause) (final : Nat) (aux : Nat) (time : Time) :
    (p.admitEnd j cause final aux time).deliveries = p.deliveries := rfl
@[simp] theorem Part.admitEnd_outputs (p : Part) (j : JobId) (cause : EndCause) (final : Nat) (aux : Nat) (time : Time) :
    (p.admitEnd j cause final aux time).outputs = p.outputs := rfl
@[simp] theorem Part.admitEnd_cells (p : Part) (j : JobId) (cause : EndCause) (final : Nat) (aux : Nat) (time : Time) :
    (p.admitEnd j cause final aux time).cells = p.cells := rfl
@[simp] theorem Part.admitEnd_schedule (p : Part) (j : JobId) (cause : EndCause) (final : Nat) (aux : Nat) (time : Time) :
    (p.admitEnd j cause final aux time).schedule = p.schedule := rfl
@[simp] theorem Part.admitEnd_port (p : Part) (j : JobId) (cause : EndCause) (final : Nat) (aux : Nat) (time : Time) :
    (p.admitEnd j cause final aux time).port = p.port := rfl
@[simp] theorem Part.admitEnd_choices (p : Part) (j : JobId) (cause : EndCause) (final : Nat) (aux : Nat) (time : Time) :
    (p.admitEnd j cause final aux time).choices = p.choices := rfl

@[simp] theorem Part.recordOutcome_time (p : Part) (j : JobId) (seq : BitVec 16) (o : LinkOutcome) :
    (p.recordOutcome j seq o).time = p.time := rfl
@[simp] theorem Part.recordOutcome_refclk (p : Part) (j : JobId) (seq : BitVec 16) (o : LinkOutcome) :
    (p.recordOutcome j seq o).refclk = p.refclk := rfl
@[simp] theorem Part.recordOutcome_resetHold (p : Part) (j : JobId) (seq : BitVec 16) (o : LinkOutcome) :
    (p.recordOutcome j seq o).resetHold = p.resetHold := rfl
@[simp] theorem Part.recordOutcome_resetN (p : Part) (j : JobId) (seq : BitVec 16) (o : LinkOutcome) :
    (p.recordOutcome j seq o).resetN = p.resetN := rfl
@[simp] theorem Part.recordOutcome_inputs (p : Part) (j : JobId) (seq : BitVec 16) (o : LinkOutcome) :
    (p.recordOutcome j seq o).inputs = p.inputs := rfl
@[simp] theorem Part.recordOutcome_deliveries (p : Part) (j : JobId) (seq : BitVec 16) (o : LinkOutcome) :
    (p.recordOutcome j seq o).deliveries = p.deliveries := rfl
@[simp] theorem Part.recordOutcome_outputs (p : Part) (j : JobId) (seq : BitVec 16) (o : LinkOutcome) :
    (p.recordOutcome j seq o).outputs = p.outputs := rfl
@[simp] theorem Part.recordOutcome_cells (p : Part) (j : JobId) (seq : BitVec 16) (o : LinkOutcome) :
    (p.recordOutcome j seq o).cells = p.cells := rfl
@[simp] theorem Part.recordOutcome_schedule (p : Part) (j : JobId) (seq : BitVec 16) (o : LinkOutcome) :
    (p.recordOutcome j seq o).schedule = p.schedule := rfl
@[simp] theorem Part.recordOutcome_port (p : Part) (j : JobId) (seq : BitVec 16) (o : LinkOutcome) :
    (p.recordOutcome j seq o).port = p.port := rfl
@[simp] theorem Part.recordOutcome_choices (p : Part) (j : JobId) (seq : BitVec 16) (o : LinkOutcome) :
    (p.recordOutcome j seq o).choices = p.choices := rfl

@[simp] theorem Part.closeReports_time (p : Part) (j : JobId) : (p.closeReports j).time = p.time := rfl
@[simp] theorem Part.closeReports_refclk (p : Part) (j : JobId) : (p.closeReports j).refclk = p.refclk := rfl
@[simp] theorem Part.closeReports_resetHold (p : Part) (j : JobId) : (p.closeReports j).resetHold = p.resetHold := rfl
@[simp] theorem Part.closeReports_resetN (p : Part) (j : JobId) : (p.closeReports j).resetN = p.resetN := rfl
@[simp] theorem Part.closeReports_inputs (p : Part) (j : JobId) : (p.closeReports j).inputs = p.inputs := rfl
@[simp] theorem Part.closeReports_deliveries (p : Part) (j : JobId) : (p.closeReports j).deliveries = p.deliveries := rfl
@[simp] theorem Part.closeReports_outputs (p : Part) (j : JobId) : (p.closeReports j).outputs = p.outputs := rfl
@[simp] theorem Part.closeReports_cells (p : Part) (j : JobId) : (p.closeReports j).cells = p.cells := rfl
@[simp] theorem Part.closeReports_jobs (p : Part) (j : JobId) : (p.closeReports j).jobs = p.jobs := rfl
@[simp] theorem Part.closeReports_schedule (p : Part) (j : JobId) : (p.closeReports j).schedule = p.schedule := rfl
@[simp] theorem Part.closeReports_port (p : Part) (j : JobId) : (p.closeReports j).port = p.port := rfl
@[simp] theorem Part.closeReports_choices (p : Part) (j : JobId) : (p.closeReports j).choices = p.choices := rfl

/-! ### Lines, deliveries, port -/

@[simp] theorem Part.setInput_time (p : Part) (i : InId) (l : InputLine) : (p.setInput i l).time = p.time := rfl
@[simp] theorem Part.setInput_refclk (p : Part) (i : InId) (l : InputLine) : (p.setInput i l).refclk = p.refclk := rfl
@[simp] theorem Part.setInput_resetHold (p : Part) (i : InId) (l : InputLine) : (p.setInput i l).resetHold = p.resetHold := rfl
@[simp] theorem Part.setInput_resetN (p : Part) (i : InId) (l : InputLine) : (p.setInput i l).resetN = p.resetN := rfl
@[simp] theorem Part.setInput_deliveries (p : Part) (i : InId) (l : InputLine) :
    (p.setInput i l).deliveries = p.deliveries := rfl
@[simp] theorem Part.setInput_outputs (p : Part) (i : InId) (l : InputLine) : (p.setInput i l).outputs = p.outputs := rfl
@[simp] theorem Part.setInput_cells (p : Part) (i : InId) (l : InputLine) : (p.setInput i l).cells = p.cells := rfl
@[simp] theorem Part.setInput_jobs (p : Part) (i : InId) (l : InputLine) : (p.setInput i l).jobs = p.jobs := rfl
@[simp] theorem Part.setInput_schedule (p : Part) (i : InId) (l : InputLine) : (p.setInput i l).schedule = p.schedule := rfl
@[simp] theorem Part.setInput_reports (p : Part) (i : InId) (l : InputLine) : (p.setInput i l).reports = p.reports := rfl
@[simp] theorem Part.setInput_port (p : Part) (i : InId) (l : InputLine) : (p.setInput i l).port = p.port := rfl
@[simp] theorem Part.setInput_choices (p : Part) (i : InId) (l : InputLine) : (p.setInput i l).choices = p.choices := rfl

@[simp] theorem Part.dropDeliveries_time (p : Part) (j : JobId) : (p.dropDeliveries j).time = p.time := rfl
@[simp] theorem Part.dropDeliveries_refclk (p : Part) (j : JobId) : (p.dropDeliveries j).refclk = p.refclk := rfl
@[simp] theorem Part.dropDeliveries_resetHold (p : Part) (j : JobId) : (p.dropDeliveries j).resetHold = p.resetHold := rfl
@[simp] theorem Part.dropDeliveries_resetN (p : Part) (j : JobId) : (p.dropDeliveries j).resetN = p.resetN := rfl
@[simp] theorem Part.dropDeliveries_inputs (p : Part) (j : JobId) : (p.dropDeliveries j).inputs = p.inputs := rfl
@[simp] theorem Part.dropDeliveries_outputs (p : Part) (j : JobId) : (p.dropDeliveries j).outputs = p.outputs := rfl
@[simp] theorem Part.dropDeliveries_cells (p : Part) (j : JobId) : (p.dropDeliveries j).cells = p.cells := rfl
@[simp] theorem Part.dropDeliveries_jobs (p : Part) (j : JobId) : (p.dropDeliveries j).jobs = p.jobs := rfl
@[simp] theorem Part.dropDeliveries_schedule (p : Part) (j : JobId) : (p.dropDeliveries j).schedule = p.schedule := rfl
@[simp] theorem Part.dropDeliveries_reports (p : Part) (j : JobId) : (p.dropDeliveries j).reports = p.reports := rfl
@[simp] theorem Part.dropDeliveries_port (p : Part) (j : JobId) : (p.dropDeliveries j).port = p.port := rfl
@[simp] theorem Part.dropDeliveries_choices (p : Part) (j : JobId) : (p.dropDeliveries j).choices = p.choices := rfl

@[simp] theorem Part.removeDelivery_time (p : Part) (d : Delivery) : (p.removeDelivery d).time = p.time := rfl
@[simp] theorem Part.removeDelivery_refclk (p : Part) (d : Delivery) : (p.removeDelivery d).refclk = p.refclk := rfl
@[simp] theorem Part.removeDelivery_resetHold (p : Part) (d : Delivery) : (p.removeDelivery d).resetHold = p.resetHold := rfl
@[simp] theorem Part.removeDelivery_resetN (p : Part) (d : Delivery) : (p.removeDelivery d).resetN = p.resetN := rfl
@[simp] theorem Part.removeDelivery_inputs (p : Part) (d : Delivery) : (p.removeDelivery d).inputs = p.inputs := rfl
@[simp] theorem Part.removeDelivery_outputs (p : Part) (d : Delivery) : (p.removeDelivery d).outputs = p.outputs := rfl
@[simp] theorem Part.removeDelivery_cells (p : Part) (d : Delivery) : (p.removeDelivery d).cells = p.cells := rfl
@[simp] theorem Part.removeDelivery_jobs (p : Part) (d : Delivery) : (p.removeDelivery d).jobs = p.jobs := rfl
@[simp] theorem Part.removeDelivery_schedule (p : Part) (d : Delivery) : (p.removeDelivery d).schedule = p.schedule := rfl
@[simp] theorem Part.removeDelivery_reports (p : Part) (d : Delivery) : (p.removeDelivery d).reports = p.reports := rfl
@[simp] theorem Part.removeDelivery_port (p : Part) (d : Delivery) : (p.removeDelivery d).port = p.port := rfl
@[simp] theorem Part.removeDelivery_choices (p : Part) (d : Delivery) : (p.removeDelivery d).choices = p.choices := rfl

@[simp] theorem Part.removeLossDelivery_time (p : Part) (d : LossDelivery) : (p.removeLossDelivery d).time = p.time := rfl
@[simp] theorem Part.removeLossDelivery_refclk (p : Part) (d : LossDelivery) : (p.removeLossDelivery d).refclk = p.refclk := rfl
@[simp] theorem Part.removeLossDelivery_resetHold (p : Part) (d : LossDelivery) :
    (p.removeLossDelivery d).resetHold = p.resetHold := rfl
@[simp] theorem Part.removeLossDelivery_resetN (p : Part) (d : LossDelivery) : (p.removeLossDelivery d).resetN = p.resetN := rfl
@[simp] theorem Part.removeLossDelivery_inputs (p : Part) (d : LossDelivery) : (p.removeLossDelivery d).inputs = p.inputs := rfl
@[simp] theorem Part.removeLossDelivery_deliveries (p : Part) (d : LossDelivery) :
    (p.removeLossDelivery d).deliveries = p.deliveries := rfl
@[simp] theorem Part.removeLossDelivery_outputs (p : Part) (d : LossDelivery) :
    (p.removeLossDelivery d).outputs = p.outputs := rfl
@[simp] theorem Part.removeLossDelivery_cells (p : Part) (d : LossDelivery) : (p.removeLossDelivery d).cells = p.cells := rfl
@[simp] theorem Part.removeLossDelivery_jobs (p : Part) (d : LossDelivery) : (p.removeLossDelivery d).jobs = p.jobs := rfl
@[simp] theorem Part.removeLossDelivery_schedule (p : Part) (d : LossDelivery) :
    (p.removeLossDelivery d).schedule = p.schedule := rfl
@[simp] theorem Part.removeLossDelivery_port (p : Part) (d : LossDelivery) : (p.removeLossDelivery d).port = p.port := rfl
@[simp] theorem Part.removeLossDelivery_choices (p : Part) (d : LossDelivery) :
    (p.removeLossDelivery d).choices = p.choices := rfl

@[simp] theorem Part.beginFrame_time (p : Part) (f : Frame) : (p.beginFrame f).time = p.time := rfl
@[simp] theorem Part.beginFrame_refclk (p : Part) (f : Frame) : (p.beginFrame f).refclk = p.refclk := rfl
@[simp] theorem Part.beginFrame_resetHold (p : Part) (f : Frame) : (p.beginFrame f).resetHold = p.resetHold := rfl
@[simp] theorem Part.beginFrame_resetN (p : Part) (f : Frame) : (p.beginFrame f).resetN = p.resetN := rfl
@[simp] theorem Part.beginFrame_inputs (p : Part) (f : Frame) : (p.beginFrame f).inputs = p.inputs := rfl
@[simp] theorem Part.beginFrame_deliveries (p : Part) (f : Frame) : (p.beginFrame f).deliveries = p.deliveries := rfl
@[simp] theorem Part.beginFrame_outputs (p : Part) (f : Frame) : (p.beginFrame f).outputs = p.outputs := rfl
@[simp] theorem Part.beginFrame_cells (p : Part) (f : Frame) : (p.beginFrame f).cells = p.cells := rfl
@[simp] theorem Part.beginFrame_jobs (p : Part) (f : Frame) : (p.beginFrame f).jobs = p.jobs := rfl
@[simp] theorem Part.beginFrame_schedule (p : Part) (f : Frame) : (p.beginFrame f).schedule = p.schedule := rfl
@[simp] theorem Part.beginFrame_reports (p : Part) (f : Frame) : (p.beginFrame f).reports = p.reports := rfl
@[simp] theorem Part.beginFrame_choices (p : Part) (f : Frame) : (p.beginFrame f).choices = p.choices := rfl

@[simp] theorem Part.appendReply_time (p : Part) (f : Frame) : (p.appendReply f).time = p.time := rfl
@[simp] theorem Part.appendReply_refclk (p : Part) (f : Frame) : (p.appendReply f).refclk = p.refclk := rfl
@[simp] theorem Part.appendReply_resetHold (p : Part) (f : Frame) : (p.appendReply f).resetHold = p.resetHold := rfl
@[simp] theorem Part.appendReply_resetN (p : Part) (f : Frame) : (p.appendReply f).resetN = p.resetN := rfl
@[simp] theorem Part.appendReply_inputs (p : Part) (f : Frame) : (p.appendReply f).inputs = p.inputs := rfl
@[simp] theorem Part.appendReply_deliveries (p : Part) (f : Frame) : (p.appendReply f).deliveries = p.deliveries := rfl
@[simp] theorem Part.appendReply_outputs (p : Part) (f : Frame) : (p.appendReply f).outputs = p.outputs := rfl
@[simp] theorem Part.appendReply_cells (p : Part) (f : Frame) : (p.appendReply f).cells = p.cells := rfl
@[simp] theorem Part.appendReply_jobs (p : Part) (f : Frame) : (p.appendReply f).jobs = p.jobs := rfl
@[simp] theorem Part.appendReply_schedule (p : Part) (f : Frame) : (p.appendReply f).schedule = p.schedule := rfl
@[simp] theorem Part.appendReply_reports (p : Part) (f : Frame) : (p.appendReply f).reports = p.reports := rfl
@[simp] theorem Part.appendReply_choices (p : Part) (f : Frame) : (p.appendReply f).choices = p.choices := rfl

@[simp] theorem Part.dropFrame_time (p : Part) : (p.dropFrame).time = p.time := rfl
@[simp] theorem Part.dropFrame_refclk (p : Part) : (p.dropFrame).refclk = p.refclk := rfl
@[simp] theorem Part.dropFrame_resetHold (p : Part) : (p.dropFrame).resetHold = p.resetHold := rfl
@[simp] theorem Part.dropFrame_resetN (p : Part) : (p.dropFrame).resetN = p.resetN := rfl
@[simp] theorem Part.dropFrame_inputs (p : Part) : (p.dropFrame).inputs = p.inputs := rfl
@[simp] theorem Part.dropFrame_deliveries (p : Part) : (p.dropFrame).deliveries = p.deliveries := rfl
@[simp] theorem Part.dropFrame_outputs (p : Part) : (p.dropFrame).outputs = p.outputs := rfl
@[simp] theorem Part.dropFrame_cells (p : Part) : (p.dropFrame).cells = p.cells := rfl
@[simp] theorem Part.dropFrame_jobs (p : Part) : (p.dropFrame).jobs = p.jobs := rfl
@[simp] theorem Part.dropFrame_schedule (p : Part) : (p.dropFrame).schedule = p.schedule := rfl
@[simp] theorem Part.dropFrame_reports (p : Part) : (p.dropFrame).reports = p.reports := rfl
@[simp] theorem Part.dropFrame_choices (p : Part) : (p.dropFrame).choices = p.choices := rfl

@[simp] theorem Part.setErrors_time (p : Part) (e : ErrorCounters) : (p.setErrors e).time = p.time := rfl
@[simp] theorem Part.setErrors_refclk (p : Part) (e : ErrorCounters) : (p.setErrors e).refclk = p.refclk := rfl
@[simp] theorem Part.setErrors_resetHold (p : Part) (e : ErrorCounters) : (p.setErrors e).resetHold = p.resetHold := rfl
@[simp] theorem Part.setErrors_resetN (p : Part) (e : ErrorCounters) : (p.setErrors e).resetN = p.resetN := rfl
@[simp] theorem Part.setErrors_inputs (p : Part) (e : ErrorCounters) : (p.setErrors e).inputs = p.inputs := rfl
@[simp] theorem Part.setErrors_deliveries (p : Part) (e : ErrorCounters) : (p.setErrors e).deliveries = p.deliveries := rfl
@[simp] theorem Part.setErrors_outputs (p : Part) (e : ErrorCounters) : (p.setErrors e).outputs = p.outputs := rfl
@[simp] theorem Part.setErrors_cells (p : Part) (e : ErrorCounters) : (p.setErrors e).cells = p.cells := rfl
@[simp] theorem Part.setErrors_jobs (p : Part) (e : ErrorCounters) : (p.setErrors e).jobs = p.jobs := rfl
@[simp] theorem Part.setErrors_schedule (p : Part) (e : ErrorCounters) : (p.setErrors e).schedule = p.schedule := rfl
@[simp] theorem Part.setErrors_reports (p : Part) (e : ErrorCounters) : (p.setErrors e).reports = p.reports := rfl
@[simp] theorem Part.setErrors_choices (p : Part) (e : ErrorCounters) : (p.setErrors e).choices = p.choices := rfl

@[simp] theorem Part.setReceiver_time (p : Part) (st : RxState) : (p.setReceiver st).time = p.time := rfl
@[simp] theorem Part.setReceiver_refclk (p : Part) (st : RxState) : (p.setReceiver st).refclk = p.refclk := rfl
@[simp] theorem Part.setReceiver_resetHold (p : Part) (st : RxState) : (p.setReceiver st).resetHold = p.resetHold := rfl
@[simp] theorem Part.setReceiver_resetN (p : Part) (st : RxState) : (p.setReceiver st).resetN = p.resetN := rfl
@[simp] theorem Part.setReceiver_inputs (p : Part) (st : RxState) : (p.setReceiver st).inputs = p.inputs := rfl
@[simp] theorem Part.setReceiver_deliveries (p : Part) (st : RxState) : (p.setReceiver st).deliveries = p.deliveries := rfl
@[simp] theorem Part.setReceiver_outputs (p : Part) (st : RxState) : (p.setReceiver st).outputs = p.outputs := rfl
@[simp] theorem Part.setReceiver_cells (p : Part) (st : RxState) : (p.setReceiver st).cells = p.cells := rfl
@[simp] theorem Part.setReceiver_jobs (p : Part) (st : RxState) : (p.setReceiver st).jobs = p.jobs := rfl
@[simp] theorem Part.setReceiver_schedule (p : Part) (st : RxState) : (p.setReceiver st).schedule = p.schedule := rfl
@[simp] theorem Part.setReceiver_reports (p : Part) (st : RxState) : (p.setReceiver st).reports = p.reports := rfl
@[simp] theorem Part.setReceiver_choices (p : Part) (st : RxState) : (p.setReceiver st).choices = p.choices := rfl

@[simp] theorem Part.endHighWait_time (p : Part) : p.endHighWait.time = p.time := rfl
@[simp] theorem Part.endHighWait_refclk (p : Part) : p.endHighWait.refclk = p.refclk := rfl
@[simp] theorem Part.endHighWait_resetHold (p : Part) : p.endHighWait.resetHold = p.resetHold := rfl
@[simp] theorem Part.endHighWait_resetN (p : Part) : p.endHighWait.resetN = p.resetN := rfl
@[simp] theorem Part.endHighWait_inputs (p : Part) : p.endHighWait.inputs = p.inputs := rfl
@[simp] theorem Part.endHighWait_deliveries (p : Part) : p.endHighWait.deliveries = p.deliveries := rfl
@[simp] theorem Part.endHighWait_outputs (p : Part) : p.endHighWait.outputs = p.outputs := rfl
@[simp] theorem Part.endHighWait_cells (p : Part) : p.endHighWait.cells = p.cells := rfl
@[simp] theorem Part.endHighWait_jobs (p : Part) : p.endHighWait.jobs = p.jobs := rfl
@[simp] theorem Part.endHighWait_schedule (p : Part) : p.endHighWait.schedule = p.schedule := rfl
@[simp] theorem Part.endHighWait_reports (p : Part) : p.endHighWait.reports = p.reports := rfl
@[simp] theorem Part.endHighWait_choices (p : Part) : p.endHighWait.choices = p.choices := rfl

@[simp] theorem Part.awaitHigh_time (p : Part) (t : Time) : (p.awaitHigh t).time = p.time := rfl
@[simp] theorem Part.awaitHigh_refclk (p : Part) (t : Time) : (p.awaitHigh t).refclk = p.refclk := rfl
@[simp] theorem Part.awaitHigh_resetHold (p : Part) (t : Time) : (p.awaitHigh t).resetHold = p.resetHold := rfl
@[simp] theorem Part.awaitHigh_resetN (p : Part) (t : Time) : (p.awaitHigh t).resetN = p.resetN := rfl
@[simp] theorem Part.awaitHigh_inputs (p : Part) (t : Time) : (p.awaitHigh t).inputs = p.inputs := rfl
@[simp] theorem Part.awaitHigh_deliveries (p : Part) (t : Time) : (p.awaitHigh t).deliveries = p.deliveries := rfl
@[simp] theorem Part.awaitHigh_outputs (p : Part) (t : Time) : (p.awaitHigh t).outputs = p.outputs := rfl
@[simp] theorem Part.awaitHigh_cells (p : Part) (t : Time) : (p.awaitHigh t).cells = p.cells := rfl
@[simp] theorem Part.awaitHigh_jobs (p : Part) (t : Time) : (p.awaitHigh t).jobs = p.jobs := rfl
@[simp] theorem Part.awaitHigh_schedule (p : Part) (t : Time) : (p.awaitHigh t).schedule = p.schedule := rfl
@[simp] theorem Part.awaitHigh_reports (p : Part) (t : Time) : (p.awaitHigh t).reports = p.reports := rfl
@[simp] theorem Part.awaitHigh_choices (p : Part) (t : Time) : (p.awaitHigh t).choices = p.choices := rfl

@[simp] theorem Part.setBreak_time (p : Part) (b : Bool) : (p.setBreak b).time = p.time := rfl
@[simp] theorem Part.setBreak_refclk (p : Part) (b : Bool) : (p.setBreak b).refclk = p.refclk := rfl
@[simp] theorem Part.setBreak_resetHold (p : Part) (b : Bool) : (p.setBreak b).resetHold = p.resetHold := rfl
@[simp] theorem Part.setBreak_resetN (p : Part) (b : Bool) : (p.setBreak b).resetN = p.resetN := rfl
@[simp] theorem Part.setBreak_inputs (p : Part) (b : Bool) : (p.setBreak b).inputs = p.inputs := rfl
@[simp] theorem Part.setBreak_deliveries (p : Part) (b : Bool) : (p.setBreak b).deliveries = p.deliveries := rfl
@[simp] theorem Part.setBreak_outputs (p : Part) (b : Bool) : (p.setBreak b).outputs = p.outputs := rfl
@[simp] theorem Part.setBreak_cells (p : Part) (b : Bool) : (p.setBreak b).cells = p.cells := rfl
@[simp] theorem Part.setBreak_jobs (p : Part) (b : Bool) : (p.setBreak b).jobs = p.jobs := rfl
@[simp] theorem Part.setBreak_schedule (p : Part) (b : Bool) : (p.setBreak b).schedule = p.schedule := rfl
@[simp] theorem Part.setBreak_reports (p : Part) (b : Bool) : (p.setBreak b).reports = p.reports := rfl
@[simp] theorem Part.setBreak_choices (p : Part) (b : Bool) : (p.setBreak b).choices = p.choices := rfl

@[simp] theorem Part.takeByte_time (p : Part) (st : RxState) (f : RxFrame) : (p.takeByte st f).time = p.time := rfl
@[simp] theorem Part.takeByte_refclk (p : Part) (st : RxState) (f : RxFrame) : (p.takeByte st f).refclk = p.refclk := rfl
@[simp] theorem Part.takeByte_resetHold (p : Part) (st : RxState) (f : RxFrame) :
    (p.takeByte st f).resetHold = p.resetHold := rfl
@[simp] theorem Part.takeByte_resetN (p : Part) (st : RxState) (f : RxFrame) : (p.takeByte st f).resetN = p.resetN := rfl
@[simp] theorem Part.takeByte_inputs (p : Part) (st : RxState) (f : RxFrame) : (p.takeByte st f).inputs = p.inputs := rfl
@[simp] theorem Part.takeByte_deliveries (p : Part) (st : RxState) (f : RxFrame) :
    (p.takeByte st f).deliveries = p.deliveries := rfl
@[simp] theorem Part.takeByte_outputs (p : Part) (st : RxState) (f : RxFrame) : (p.takeByte st f).outputs = p.outputs := rfl
@[simp] theorem Part.takeByte_cells (p : Part) (st : RxState) (f : RxFrame) : (p.takeByte st f).cells = p.cells := rfl
@[simp] theorem Part.takeByte_jobs (p : Part) (st : RxState) (f : RxFrame) : (p.takeByte st f).jobs = p.jobs := rfl
@[simp] theorem Part.takeByte_schedule (p : Part) (st : RxState) (f : RxFrame) : (p.takeByte st f).schedule = p.schedule := rfl
@[simp] theorem Part.takeByte_reports (p : Part) (st : RxState) (f : RxFrame) : (p.takeByte st f).reports = p.reports := rfl
@[simp] theorem Part.takeByte_choices (p : Part) (st : RxState) (f : RxFrame) : (p.takeByte st f).choices = p.choices := rfl

/-! ### What is written

The elements are spelled by `val`, the form to which `simp` brings an element at a `Fin`. -/

@[simp] theorem Part.setJob_jobs_self (p : Part) (j : JobId) (b : Job) : (p.setJob j b).jobs[j.val] = b := by
  simp [Part.setJob]

theorem Part.setJob_jobs_ne (p : Part) {j k : JobId} (b : Job) (h : k ≠ j) : (p.setJob j b).jobs[k.val] = p.jobs[k.val] := by
  have h' : ¬ j.val = k.val := fun e => h (Fin.ext e.symm)
  simp [Part.setJob, h']

/-- A job record after one record has been replaced. -/
theorem Part.setJob_jobs (p : Part) (j k : JobId) (b : Job) :
    (p.setJob j b).jobs[k.val] = if k = j then b else p.jobs[k.val] := by
  by_cases h : k = j
  · subst h; simp
  · simp [Part.setJob_jobs_ne p b h, h]

@[simp] theorem Part.setOutput_outputs_self (p : Part) (o : OutId) (l : OutputLine) : (p.setOutput o l).outputs[o.val] = l := by
  simp [Part.setOutput]

theorem Part.setOutput_outputs_ne (p : Part) {o q : OutId} (l : OutputLine) (h : q ≠ o) :
    (p.setOutput o l).outputs[q.val] = p.outputs[q.val] := by
  have h' : ¬ o.val = q.val := fun e => h (Fin.ext e.symm)
  simp [Part.setOutput, h']

/-- An output line after one line has been set. -/
theorem Part.setOutput_outputs (p : Part) (o q : OutId) (l : OutputLine) :
    (p.setOutput o l).outputs[q.val] = if q = o then l else p.outputs[q.val] := by
  by_cases h : q = o
  · subst h; simp
  · simp [Part.setOutput_outputs_ne p l h, h]

@[simp] theorem Part.setCell_cells_self (p : Part) (c : CellId) (x : Cell) : (p.setCell c x).cells[c.val] = x := by
  simp [Part.setCell]

theorem Part.setCell_cells_ne (p : Part) {c k : CellId} (x : Cell) (h : k ≠ c) : (p.setCell c x).cells[k.val] = p.cells[k.val] := by
  have h' : ¬ c.val = k.val := fun e => h (Fin.ext e.symm)
  simp [Part.setCell, h']

/-- A cell after one cell has been set. -/
theorem Part.setCell_cells (p : Part) (c k : CellId) (x : Cell) :
    (p.setCell c x).cells[k.val] = if k = c then x else p.cells[k.val] := by
  by_cases h : k = c
  · subst h; simp
  · simp [Part.setCell_cells_ne p x h, h]

@[simp] theorem Part.setInput_inputs_self (p : Part) (i : InId) (l : InputLine) : (p.setInput i l).inputs[i.val] = l := by
  simp [Part.setInput]

theorem Part.setInput_inputs_ne (p : Part) {i k : InId} (l : InputLine) (h : k ≠ i) :
    (p.setInput i l).inputs[k.val] = p.inputs[k.val] := by
  have h' : ¬ i.val = k.val := fun e => h (Fin.ext e.symm)
  simp [Part.setInput, h']

/-- The cells after a grant: those granted are the job's, at count 0. -/
theorem Part.giveCells_cells (p : Part) (j : JobId) (cs : List CellId) (c : CellId) :
    (p.giveCells j cs).cells[c.val] = if c ∈ cs then { owner := some j, count := 0#16, phase := none } else p.cells[c.val] := by
  simp [Part.giveCells]

/-- The cells after those of a job are freed. -/
theorem Part.freeCellsOf_cells (p : Part) (j : JobId) (c : CellId) :
    (p.freeCellsOf j).cells[c.val] = if p.cells[c.val].owner = some j then Cell.free else p.cells[c.val] := by
  simp [Part.freeCellsOf, Part.setJob]

@[simp] theorem Part.freeCellsOf_jobs_self (p : Part) (j : JobId) :
    (p.freeCellsOf j).jobs[j.val] = { p.jobs[j.val] with cells := [] } := by
  simp [Part.freeCellsOf]

theorem Part.freeCellsOf_jobs_ne (p : Part) {j k : JobId} (h : k ≠ j) : (p.freeCellsOf j).jobs[k.val] = p.jobs[k.val] := by
  simp [Part.freeCellsOf, Part.setJob_jobs_ne _ _ h]

@[simp] theorem Part.setWork_jobs_self (p : Part) (j : JobId) (w : Work) :
    (p.setWork j w).jobs[j.val] = { p.jobs[j.val] with defn := p.jobs[j.val].defn.map (fun d => { d with work := w }) } := by
  simp [Part.setWork]

theorem Part.setWork_jobs_ne (p : Part) {j k : JobId} (w : Work) (h : k ≠ j) :
    (p.setWork j w).jobs[k.val] = p.jobs[k.val] :=
  Part.setJob_jobs_ne p _ h

@[simp] theorem Part.setState_jobs_self (p : Part) (j : JobId) (st : JobState) :
    (p.setState j st).jobs[j.val] = { p.jobs[j.val] with state := st } := by
  simp [Part.setState]

theorem Part.setState_jobs_ne (p : Part) {j k : JobId} (st : JobState) (h : k ≠ j) :
    (p.setState j st).jobs[k.val] = p.jobs[k.val] := Part.setJob_jobs_ne p _ h

@[simp] theorem Part.setStaged_jobs_self (p : Part) (j : JobId) (staged : Option Staged) :
    (p.setStaged j staged).jobs[j.val] = { p.jobs[j.val] with staged := staged } := by
  simp [Part.setStaged]

theorem Part.setStaged_jobs_ne (p : Part) {j k : JobId} (staged : Option Staged) (h : k ≠ j) :
    (p.setStaged j staged).jobs[k.val] = p.jobs[k.val] := Part.setJob_jobs_ne p _ h

@[simp] theorem Part.setLost_jobs_self (p : Part) (j : JobId) (lost : Nat) :
    (p.setLost j lost).jobs[j.val] = { p.jobs[j.val] with lost := lost } := by
  simp [Part.setLost]

theorem Part.setLost_jobs_ne (p : Part) {j k : JobId} (lost : Nat) (h : k ≠ j) : (p.setLost j lost).jobs[k.val] = p.jobs[k.val] :=
  Part.setJob_jobs_ne p _ h

@[simp] theorem Part.unschedule_schedule (p : Part) (j : JobId) :
    (p.unschedule j).schedule = p.schedule.filter (fun e => decide (e.job ≠ j)) := rfl

@[simp] theorem Part.popEntry_schedule (p : Part) : p.popEntry.schedule = p.schedule.tail := rfl

@[simp] theorem Part.dropDeliveries_deliveries (p : Part) (j : JobId) :
    (p.dropDeliveries j).deliveries = p.deliveries.filter (fun d => decide (d.job ≠ j)) := rfl

end Sys2Proof.Machine
end

