-- ==== Sys2Proof/Laws/Jobs.lean ====
section
/-! SUPPORT. What the shared operations of a job's life leave as it was, and one lemma for each that says what it can do. -/

namespace Sys2Proof.Machine

open Sys2Proof

/-! ### Jobs and lines named by a step -/

/-- The job that a step names by its number. -/
@[simp] theorem jobOfNumber_succ (j : JobId) : jobOfNumber (j.val + 1) = some j := by
  have h : jobNumberOk (j.val + 1) = true := by
    have := j.isLt
    simp [jobNumberOk]
  unfold jobOfNumber
  rw [if_pos h]
  simp [Fin.ofNat, Nat.mod_eq_of_lt j.isLt]

/-- The input line that a step names by its number. -/
@[simp] theorem inputOfNumber_val (i : InId) : inputOfNumber i.val = some i := by
  have h : inputLineOk i.val = true := by simp [inputLineOk]
  unfold inputOfNumber
  rw [if_pos h]
  simp [Fin.ofNat, Nat.mod_eq_of_lt i.isLt]

/-! ### Frames -/

@[simp] theorem Part.offer_time (p : Part) (j : JobId) (time : Time) (content : ReportContent) :
    (p.offer j time content).time = p.time := by
  unfold Part.offer; split <;> simp
@[simp] theorem Part.offer_refclk (p : Part) (j : JobId) (time : Time) (content : ReportContent) :
    (p.offer j time content).refclk = p.refclk := by
  unfold Part.offer; split <;> simp
@[simp] theorem Part.offer_resetHold (p : Part) (j : JobId) (time : Time) (content : ReportContent) :
    (p.offer j time content).resetHold = p.resetHold := by
  unfold Part.offer; split <;> simp
@[simp] theorem Part.offer_resetN (p : Part) (j : JobId) (time : Time) (content : ReportContent) :
    (p.offer j time content).resetN = p.resetN := by
  unfold Part.offer; split <;> simp
@[simp] theorem Part.offer_inputs (p : Part) (j : JobId) (time : Time) (content : ReportContent) :
    (p.offer j time content).inputs = p.inputs := by
  unfold Part.offer; split <;> simp
@[simp] theorem Part.offer_deliveries (p : Part) (j : JobId) (time : Time) (content : ReportContent) :
    (p.offer j time content).deliveries = p.deliveries := by
  unfold Part.offer; split <;> simp
@[simp] theorem Part.offer_outputs (p : Part) (j : JobId) (time : Time) (content : ReportContent) :
    (p.offer j time content).outputs = p.outputs := by
  unfold Part.offer; split <;> simp
@[simp] theorem Part.offer_cells (p : Part) (j : JobId) (time : Time) (content : ReportContent) :
    (p.offer j time content).cells = p.cells := by
  unfold Part.offer; split <;> simp
@[simp] theorem Part.offer_schedule (p : Part) (j : JobId) (time : Time) (content : ReportContent) :
    (p.offer j time content).schedule = p.schedule := by
  unfold Part.offer; split <;> simp
@[simp] theorem Part.offer_port (p : Part) (j : JobId) (time : Time) (content : ReportContent) :
    (p.offer j time content).port = p.port := by
  unfold Part.offer; split <;> simp
@[simp] theorem Part.offer_choices (p : Part) (j : JobId) (time : Time) (content : ReportContent) :
    (p.offer j time content).choices = p.choices := by
  unfold Part.offer; split <;> simp

@[simp] theorem Part.offerTick_time (p : Part) (j : JobId) (number : BitVec 32) (time : Time) :
    (p.offerTick j number time).time = p.time := by
  unfold Part.offerTick; split <;> simp
@[simp] theorem Part.offerTick_refclk (p : Part) (j : JobId) (number : BitVec 32) (time : Time) :
    (p.offerTick j number time).refclk = p.refclk := by
  unfold Part.offerTick; split <;> simp
@[simp] theorem Part.offerTick_resetHold (p : Part) (j : JobId) (number : BitVec 32) (time : Time) :
    (p.offerTick j number time).resetHold = p.resetHold := by
  unfold Part.offerTick; split <;> simp
@[simp] theorem Part.offerTick_resetN (p : Part) (j : JobId) (number : BitVec 32) (time : Time) :
    (p.offerTick j number time).resetN = p.resetN := by
  unfold Part.offerTick; split <;> simp
@[simp] theorem Part.offerTick_inputs (p : Part) (j : JobId) (number : BitVec 32) (time : Time) :
    (p.offerTick j number time).inputs = p.inputs := by
  unfold Part.offerTick; split <;> simp
@[simp] theorem Part.offerTick_deliveries (p : Part) (j : JobId) (number : BitVec 32) (time : Time) :
    (p.offerTick j number time).deliveries = p.deliveries := by
  unfold Part.offerTick; split <;> simp
@[simp] theorem Part.offerTick_outputs (p : Part) (j : JobId) (number : BitVec 32) (time : Time) :
    (p.offerTick j number time).outputs = p.outputs := by
  unfold Part.offerTick; split <;> simp
@[simp] theorem Part.offerTick_cells (p : Part) (j : JobId) (number : BitVec 32) (time : Time) :
    (p.offerTick j number time).cells = p.cells := by
  unfold Part.offerTick; split <;> simp
@[simp] theorem Part.offerTick_schedule (p : Part) (j : JobId) (number : BitVec 32) (time : Time) :
    (p.offerTick j number time).schedule = p.schedule := by
  unfold Part.offerTick; split <;> simp
@[simp] theorem Part.offerTick_port (p : Part) (j : JobId) (number : BitVec 32) (time : Time) :
    (p.offerTick j number time).port = p.port := by
  unfold Part.offerTick; split <;> simp
@[simp] theorem Part.offerTick_choices (p : Part) (j : JobId) (number : BitVec 32) (time : Time) :
    (p.offerTick j number time).choices = p.choices := by
  unfold Part.offerTick; split <;> simp

@[simp] theorem Part.countUp_time (p : Part) (j : JobId) : (p.countUp j).time = p.time := by
  unfold Part.countUp; repeat' split
  all_goals simp
@[simp] theorem Part.countUp_refclk (p : Part) (j : JobId) : (p.countUp j).refclk = p.refclk := by
  unfold Part.countUp; repeat' split
  all_goals simp
@[simp] theorem Part.countUp_resetHold (p : Part) (j : JobId) : (p.countUp j).resetHold = p.resetHold := by
  unfold Part.countUp; repeat' split
  all_goals simp
@[simp] theorem Part.countUp_resetN (p : Part) (j : JobId) : (p.countUp j).resetN = p.resetN := by
  unfold Part.countUp; repeat' split
  all_goals simp
@[simp] theorem Part.countUp_inputs (p : Part) (j : JobId) : (p.countUp j).inputs = p.inputs := by
  unfold Part.countUp; repeat' split
  all_goals simp
@[simp] theorem Part.countUp_deliveries (p : Part) (j : JobId) : (p.countUp j).deliveries = p.deliveries := by
  unfold Part.countUp; repeat' split
  all_goals simp
@[simp] theorem Part.countUp_outputs (p : Part) (j : JobId) : (p.countUp j).outputs = p.outputs := by
  unfold Part.countUp; repeat' split
  all_goals simp
@[simp] theorem Part.countUp_jobs (p : Part) (j : JobId) : (p.countUp j).jobs = p.jobs := by
  unfold Part.countUp; repeat' split
  all_goals simp
@[simp] theorem Part.countUp_schedule (p : Part) (j : JobId) : (p.countUp j).schedule = p.schedule := by
  unfold Part.countUp; repeat' split
  all_goals simp
@[simp] theorem Part.countUp_reports (p : Part) (j : JobId) : (p.countUp j).reports = p.reports := by
  unfold Part.countUp; repeat' split
  all_goals simp
@[simp] theorem Part.countUp_port (p : Part) (j : JobId) : (p.countUp j).port = p.port := by
  unfold Part.countUp; repeat' split
  all_goals simp
@[simp] theorem Part.countUp_choices (p : Part) (j : JobId) : (p.countUp j).choices = p.choices := by
  unfold Part.countUp; repeat' split
  all_goals simp

@[simp] theorem Part.takeLine_time (p : Part) (j : JobId) (d : Definition) : (p.takeLine j d).time = p.time := by
  unfold Part.takeLine; split <;> simp
@[simp] theorem Part.takeLine_refclk (p : Part) (j : JobId) (d : Definition) : (p.takeLine j d).refclk = p.refclk := by
  unfold Part.takeLine; split <;> simp
@[simp] theorem Part.takeLine_resetHold (p : Part) (j : JobId) (d : Definition) : (p.takeLine j d).resetHold = p.resetHold := by
  unfold Part.takeLine; split <;> simp
@[simp] theorem Part.takeLine_resetN (p : Part) (j : JobId) (d : Definition) : (p.takeLine j d).resetN = p.resetN := by
  unfold Part.takeLine; split <;> simp
@[simp] theorem Part.takeLine_inputs (p : Part) (j : JobId) (d : Definition) : (p.takeLine j d).inputs = p.inputs := by
  unfold Part.takeLine; split <;> simp
@[simp] theorem Part.takeLine_deliveries (p : Part) (j : JobId) (d : Definition) :
    (p.takeLine j d).deliveries = p.deliveries := by
  unfold Part.takeLine; split <;> simp
@[simp] theorem Part.takeLine_cells (p : Part) (j : JobId) (d : Definition) : (p.takeLine j d).cells = p.cells := by
  unfold Part.takeLine; split <;> simp
@[simp] theorem Part.takeLine_jobs (p : Part) (j : JobId) (d : Definition) : (p.takeLine j d).jobs = p.jobs := by
  unfold Part.takeLine; split <;> simp
@[simp] theorem Part.takeLine_schedule (p : Part) (j : JobId) (d : Definition) : (p.takeLine j d).schedule = p.schedule := by
  unfold Part.takeLine; split <;> simp
@[simp] theorem Part.takeLine_reports (p : Part) (j : JobId) (d : Definition) : (p.takeLine j d).reports = p.reports := by
  unfold Part.takeLine; split <;> simp
@[simp] theorem Part.takeLine_port (p : Part) (j : JobId) (d : Definition) : (p.takeLine j d).port = p.port := by
  unfold Part.takeLine; split <;> simp
@[simp] theorem Part.takeLine_choices (p : Part) (j : JobId) (d : Definition) : (p.takeLine j d).choices = p.choices := by
  unfold Part.takeLine; split <;> simp

@[simp] theorem Part.grant_time (p : Part) (j : JobId) (d : Definition) (cs : List CellId) :
    (p.grant j d cs).time = p.time := by
  simp [Part.grant]
@[simp] theorem Part.grant_refclk (p : Part) (j : JobId) (d : Definition) (cs : List CellId) :
    (p.grant j d cs).refclk = p.refclk := by
  simp [Part.grant]
@[simp] theorem Part.grant_resetHold (p : Part) (j : JobId) (d : Definition) (cs : List CellId) :
    (p.grant j d cs).resetHold = p.resetHold := by
  simp [Part.grant]
@[simp] theorem Part.grant_resetN (p : Part) (j : JobId) (d : Definition) (cs : List CellId) :
    (p.grant j d cs).resetN = p.resetN := by
  simp [Part.grant]
@[simp] theorem Part.grant_inputs (p : Part) (j : JobId) (d : Definition) (cs : List CellId) :
    (p.grant j d cs).inputs = p.inputs := by
  simp [Part.grant]
@[simp] theorem Part.grant_deliveries (p : Part) (j : JobId) (d : Definition) (cs : List CellId) :
    (p.grant j d cs).deliveries = p.deliveries := by
  simp [Part.grant]
@[simp] theorem Part.grant_schedule (p : Part) (j : JobId) (d : Definition) (cs : List CellId) :
    (p.grant j d cs).schedule = p.schedule := by
  simp [Part.grant]
@[simp] theorem Part.grant_port (p : Part) (j : JobId) (d : Definition) (cs : List CellId) :
    (p.grant j d cs).port = p.port := by
  simp [Part.grant]
@[simp] theorem Part.grant_choices (p : Part) (j : JobId) (d : Definition) (cs : List CellId) :
    (p.grant j d cs).choices = p.choices := by
  simp [Part.grant]

@[simp] theorem Part.beginMeasure_time (p : Part) (j : JobId) (m : MeasureParams) (g : MeasureProgress) (t : Time) :
    (p.beginMeasure j m g t).time = p.time := by
  unfold Part.beginMeasure; repeat' split
  all_goals simp
@[simp] theorem Part.beginMeasure_refclk (p : Part) (j : JobId) (m : MeasureParams) (g : MeasureProgress) (t : Time) :
    (p.beginMeasure j m g t).refclk = p.refclk := by
  unfold Part.beginMeasure; repeat' split
  all_goals simp
@[simp] theorem Part.beginMeasure_resetHold (p : Part) (j : JobId) (m : MeasureParams) (g : MeasureProgress) (t : Time) :
    (p.beginMeasure j m g t).resetHold = p.resetHold := by
  unfold Part.beginMeasure; repeat' split
  all_goals simp
@[simp] theorem Part.beginMeasure_resetN (p : Part) (j : JobId) (m : MeasureParams) (g : MeasureProgress) (t : Time) :
    (p.beginMeasure j m g t).resetN = p.resetN := by
  unfold Part.beginMeasure; repeat' split
  all_goals simp
@[simp] theorem Part.beginMeasure_inputs (p : Part) (j : JobId) (m : MeasureParams) (g : MeasureProgress) (t : Time) :
    (p.beginMeasure j m g t).inputs = p.inputs := by
  unfold Part.beginMeasure; repeat' split
  all_goals simp
@[simp] theorem Part.beginMeasure_deliveries (p : Part) (j : JobId) (m : MeasureParams) (g : MeasureProgress) (t : Time) :
    (p.beginMeasure j m g t).deliveries = p.deliveries := by
  unfold Part.beginMeasure; repeat' split
  all_goals simp
@[simp] theorem Part.beginMeasure_outputs (p : Part) (j : JobId) (m : MeasureParams) (g : MeasureProgress) (t : Time) :
    (p.beginMeasure j m g t).outputs = p.outputs := by
  unfold Part.beginMeasure; repeat' split
  all_goals simp
@[simp] theorem Part.beginMeasure_reports (p : Part) (j : JobId) (m : MeasureParams) (g : MeasureProgress) (t : Time) :
    (p.beginMeasure j m g t).reports = p.reports := by
  unfold Part.beginMeasure; repeat' split
  all_goals simp
@[simp] theorem Part.beginMeasure_port (p : Part) (j : JobId) (m : MeasureParams) (g : MeasureProgress) (t : Time) :
    (p.beginMeasure j m g t).port = p.port := by
  unfold Part.beginMeasure; repeat' split
  all_goals simp
@[simp] theorem Part.beginMeasure_choices (p : Part) (j : JobId) (m : MeasureParams) (g : MeasureProgress) (t : Time) :
    (p.beginMeasure j m g t).choices = p.choices := by
  unfold Part.beginMeasure; repeat' split
  all_goals simp

@[simp] theorem Part.beginPeriod_time (p : Part) (j : JobId) (w : WaveParams) (g : WaveProgress) (t : Time) :
    (p.beginPeriod j w g t).time = p.time := by
  simp [Part.beginPeriod]
@[simp] theorem Part.beginPeriod_refclk (p : Part) (j : JobId) (w : WaveParams) (g : WaveProgress) (t : Time) :
    (p.beginPeriod j w g t).refclk = p.refclk := by
  simp [Part.beginPeriod]
@[simp] theorem Part.beginPeriod_resetHold (p : Part) (j : JobId) (w : WaveParams) (g : WaveProgress) (t : Time) :
    (p.beginPeriod j w g t).resetHold = p.resetHold := by
  simp [Part.beginPeriod]
@[simp] theorem Part.beginPeriod_resetN (p : Part) (j : JobId) (w : WaveParams) (g : WaveProgress) (t : Time) :
    (p.beginPeriod j w g t).resetN = p.resetN := by
  simp [Part.beginPeriod]
@[simp] theorem Part.beginPeriod_inputs (p : Part) (j : JobId) (w : WaveParams) (g : WaveProgress) (t : Time) :
    (p.beginPeriod j w g t).inputs = p.inputs := by
  simp [Part.beginPeriod]
@[simp] theorem Part.beginPeriod_deliveries (p : Part) (j : JobId) (w : WaveParams) (g : WaveProgress) (t : Time) :
    (p.beginPeriod j w g t).deliveries = p.deliveries := by
  simp [Part.beginPeriod]
@[simp] theorem Part.beginPeriod_schedule (p : Part) (j : JobId) (w : WaveParams) (g : WaveProgress) (t : Time) :
    (p.beginPeriod j w g t).schedule = p.schedule := by
  simp [Part.beginPeriod]
@[simp] theorem Part.beginPeriod_reports (p : Part) (j : JobId) (w : WaveParams) (g : WaveProgress) (t : Time) :
    (p.beginPeriod j w g t).reports = p.reports := by
  simp [Part.beginPeriod]
@[simp] theorem Part.beginPeriod_port (p : Part) (j : JobId) (w : WaveParams) (g : WaveProgress) (t : Time) :
    (p.beginPeriod j w g t).port = p.port := by
  simp [Part.beginPeriod]
@[simp] theorem Part.beginPeriod_choices (p : Part) (j : JobId) (w : WaveParams) (g : WaveProgress) (t : Time) :
    (p.beginPeriod j w g t).choices = p.choices := by
  simp [Part.beginPeriod]

@[simp] theorem Part.beginKind_time (p : Part) (j : JobId) (t : Time) : (p.beginKind j t).time = p.time := by
  unfold Part.beginKind; split <;> simp
@[simp] theorem Part.beginKind_refclk (p : Part) (j : JobId) (t : Time) : (p.beginKind j t).refclk = p.refclk := by
  unfold Part.beginKind; split <;> simp
@[simp] theorem Part.beginKind_resetHold (p : Part) (j : JobId) (t : Time) : (p.beginKind j t).resetHold = p.resetHold := by
  unfold Part.beginKind; split <;> simp
@[simp] theorem Part.beginKind_resetN (p : Part) (j : JobId) (t : Time) : (p.beginKind j t).resetN = p.resetN := by
  unfold Part.beginKind; split <;> simp
@[simp] theorem Part.beginKind_inputs (p : Part) (j : JobId) (t : Time) : (p.beginKind j t).inputs = p.inputs := by
  unfold Part.beginKind; split <;> simp
@[simp] theorem Part.beginKind_deliveries (p : Part) (j : JobId) (t : Time) : (p.beginKind j t).deliveries = p.deliveries := by
  unfold Part.beginKind; split <;> simp
@[simp] theorem Part.beginKind_reports (p : Part) (j : JobId) (t : Time) : (p.beginKind j t).reports = p.reports := by
  unfold Part.beginKind; split <;> simp
@[simp] theorem Part.beginKind_port (p : Part) (j : JobId) (t : Time) : (p.beginKind j t).port = p.port := by
  unfold Part.beginKind; split <;> simp
@[simp] theorem Part.beginKind_choices (p : Part) (j : JobId) (t : Time) : (p.beginKind j t).choices = p.choices := by
  unfold Part.beginKind; split <;> simp

@[simp] theorem Part.enterRunning_time (p : Part) (j : JobId) (t : Time) : (p.enterRunning j t).time = p.time := by
  simp [Part.enterRunning]
@[simp] theorem Part.enterRunning_refclk (p : Part) (j : JobId) (t : Time) : (p.enterRunning j t).refclk = p.refclk := by
  simp [Part.enterRunning]
@[simp] theorem Part.enterRunning_resetHold (p : Part) (j : JobId) (t : Time) :
    (p.enterRunning j t).resetHold = p.resetHold := by
  simp [Part.enterRunning]
@[simp] theorem Part.enterRunning_resetN (p : Part) (j : JobId) (t : Time) : (p.enterRunning j t).resetN = p.resetN := by
  simp [Part.enterRunning]
@[simp] theorem Part.enterRunning_inputs (p : Part) (j : JobId) (t : Time) : (p.enterRunning j t).inputs = p.inputs := by
  simp [Part.enterRunning]
@[simp] theorem Part.enterRunning_deliveries (p : Part) (j : JobId) (t : Time) :
    (p.enterRunning j t).deliveries = p.deliveries := by
  simp [Part.enterRunning]
@[simp] theorem Part.enterRunning_reports (p : Part) (j : JobId) (t : Time) : (p.enterRunning j t).reports = p.reports := by
  simp [Part.enterRunning]
@[simp] theorem Part.enterRunning_port (p : Part) (j : JobId) (t : Time) : (p.enterRunning j t).port = p.port := by
  simp [Part.enterRunning]
@[simp] theorem Part.enterRunning_choices (p : Part) (j : JobId) (t : Time) : (p.enterRunning j t).choices = p.choices := by
  simp [Part.enterRunning]

@[simp] theorem Part.holdJob_time (p : Part) (j : JobId) : (p.holdJob j).time = p.time := by
  unfold Part.holdJob; split <;> simp
@[simp] theorem Part.holdJob_refclk (p : Part) (j : JobId) : (p.holdJob j).refclk = p.refclk := by
  unfold Part.holdJob; split <;> simp
@[simp] theorem Part.holdJob_resetHold (p : Part) (j : JobId) : (p.holdJob j).resetHold = p.resetHold := by
  unfold Part.holdJob; split <;> simp
@[simp] theorem Part.holdJob_resetN (p : Part) (j : JobId) : (p.holdJob j).resetN = p.resetN := by
  unfold Part.holdJob; split <;> simp
@[simp] theorem Part.holdJob_inputs (p : Part) (j : JobId) : (p.holdJob j).inputs = p.inputs := by
  unfold Part.holdJob; split <;> simp
@[simp] theorem Part.holdJob_deliveries (p : Part) (j : JobId) : (p.holdJob j).deliveries = p.deliveries := by
  unfold Part.holdJob; split <;> simp
@[simp] theorem Part.holdJob_reports (p : Part) (j : JobId) : (p.holdJob j).reports = p.reports := by
  unfold Part.holdJob; split <;> simp
@[simp] theorem Part.holdJob_port (p : Part) (j : JobId) : (p.holdJob j).port = p.port := by
  unfold Part.holdJob; split <;> simp
@[simp] theorem Part.holdJob_choices (p : Part) (j : JobId) : (p.holdJob j).choices = p.choices := by
  unfold Part.holdJob; split <;> simp

@[simp] theorem Part.endSteps_time (p : Part) (j : JobId) (cause : EndCause) (endTime : Time) (sample : Nat) :
    (p.endSteps j cause endTime sample).time = p.time := by
  unfold Part.endSteps; split <;> simp
@[simp] theorem Part.endSteps_refclk (p : Part) (j : JobId) (cause : EndCause) (endTime : Time) (sample : Nat) :
    (p.endSteps j cause endTime sample).refclk = p.refclk := by
  unfold Part.endSteps; split <;> simp
@[simp] theorem Part.endSteps_resetHold (p : Part) (j : JobId) (cause : EndCause) (endTime : Time) (sample : Nat) :
    (p.endSteps j cause endTime sample).resetHold = p.resetHold := by
  unfold Part.endSteps; split <;> simp
@[simp] theorem Part.endSteps_resetN (p : Part) (j : JobId) (cause : EndCause) (endTime : Time) (sample : Nat) :
    (p.endSteps j cause endTime sample).resetN = p.resetN := by
  unfold Part.endSteps; split <;> simp
@[simp] theorem Part.endSteps_inputs (p : Part) (j : JobId) (cause : EndCause) (endTime : Time) (sample : Nat) :
    (p.endSteps j cause endTime sample).inputs = p.inputs := by
  unfold Part.endSteps; split <;> simp
@[simp] theorem Part.endSteps_port (p : Part) (j : JobId) (cause : EndCause) (endTime : Time) (sample : Nat) :
    (p.endSteps j cause endTime sample).port = p.port := by
  unfold Part.endSteps; split <;> simp
@[simp] theorem Part.endSteps_choices (p : Part) (j : JobId) (cause : EndCause) (endTime : Time) (sample : Nat) :
    (p.endSteps j cause endTime sample).choices = p.choices := by
  unfold Part.endSteps; split <;> simp

@[simp] theorem Part.arbitrate_time (p : Part) : (p.arbitrate).time = p.time := by
  unfold Part.arbitrate; repeat' split
  all_goals simp
@[simp] theorem Part.arbitrate_refclk (p : Part) : (p.arbitrate).refclk = p.refclk := by
  unfold Part.arbitrate; repeat' split
  all_goals simp
@[simp] theorem Part.arbitrate_resetHold (p : Part) : (p.arbitrate).resetHold = p.resetHold := by
  unfold Part.arbitrate; repeat' split
  all_goals simp
@[simp] theorem Part.arbitrate_resetN (p : Part) : (p.arbitrate).resetN = p.resetN := by
  unfold Part.arbitrate; repeat' split
  all_goals simp
@[simp] theorem Part.arbitrate_inputs (p : Part) : (p.arbitrate).inputs = p.inputs := by
  unfold Part.arbitrate; repeat' split
  all_goals simp
@[simp] theorem Part.arbitrate_deliveries (p : Part) : (p.arbitrate).deliveries = p.deliveries := by
  unfold Part.arbitrate; repeat' split
  all_goals simp
@[simp] theorem Part.arbitrate_outputs (p : Part) : (p.arbitrate).outputs = p.outputs := by
  unfold Part.arbitrate; repeat' split
  all_goals simp
@[simp] theorem Part.arbitrate_cells (p : Part) : (p.arbitrate).cells = p.cells := by
  unfold Part.arbitrate; repeat' split
  all_goals simp
@[simp] theorem Part.arbitrate_jobs (p : Part) : (p.arbitrate).jobs = p.jobs := by
  unfold Part.arbitrate; repeat' split
  all_goals simp
@[simp] theorem Part.arbitrate_schedule (p : Part) : (p.arbitrate).schedule = p.schedule := by
  unfold Part.arbitrate; repeat' split
  all_goals simp
@[simp] theorem Part.arbitrate_choices (p : Part) : (p.arbitrate).choices = p.choices := by
  unfold Part.arbitrate; repeat' split
  all_goals simp

/-! ### What the operations can do -/

/-- The kind, parameters and progress of a job with a definition. -/
theorem Part.workOf_some {p : Part} {j : JobId} {d : Definition} (h : p.jobs[j].defn = some d) : p.workOf j = some d.work := by
  simp only [Part.workOf, h]

/-- The output line that a job owns is the one its definition names. -/
theorem Part.ownedOutput_eq_some {p : Part} {j : JobId} {u : OutputUse} :
    p.ownedOutput j = some u ↔
      ∃ d, p.jobs[j].defn = some d ∧ d.output = some u ∧ p.outputs[u.line].owner = some j := by
  unfold Part.ownedOutput
  constructor
  · intro h
    split at h
    · cases h
    · rename_i d hd
      split at h
      · cases h
      · rename_i v hv
        split at h
        · injection h with h; subst h; exact ⟨d, hd, hv, ‹_›⟩
        · cases h
  · rintro ⟨d, hd, hu, ho⟩
    simp only [hd, hu, ho, if_true]

/-- A claim that is granted: the line is free or the job's own, the lowest-numbered free cells suffice, and there is room. -/
theorem Part.claim_granted {p : Part} {j : JobId} {d : Definition} {cs : List CellId} (h : p.claim j d = .granted cs) :
    p.lineHolder j d = none ∧ d.work.cellsNeeded ≤ p.freeCells.length ∧ p.hasRoom = true ∧
      cs = p.freeCells.take d.work.cellsNeeded := by
  unfold Part.claim at h
  split at h
  · cases h
  · split at h
    · cases h
    · split at h
      · rename_i h1 h2 h3
        injection h with h
        exact ⟨h1, by omega, h3, h.symm⟩
      · cases h

/-- The free cells are those with no owner. -/
theorem Part.mem_freeCells {p : Part} {c : CellId} : c ∈ p.freeCells ↔ p.cells[c].owner = none := by
  simp [Part.freeCells]

theorem Part.freeCells_nodup (p : Part) : p.freeCells.Nodup := (List.nodup_finRange 24).filter _

/-- The cells that a grant can give are distinct and free. -/
theorem Part.claim_cells {p : Part} {j : JobId} {d : Definition} {cs : List CellId} (h : p.claim j d = .granted cs) :
    cs.Nodup ∧ cs.length = d.work.cellsNeeded ∧ ∀ c ∈ cs, p.cells[c].owner = none := by
  obtain ⟨-, hlen, -, rfl⟩ := Part.claim_granted h
  refine ⟨(List.take_sublist _ _).nodup p.freeCells_nodup, by simp [hlen], fun c hc => ?_⟩
  exact Part.mem_freeCells.1 (List.mem_of_mem_take hc)

/-- The job record after a grant. -/
theorem Part.grant_jobs (p : Part) (j k : JobId) (d : Definition) (cs : List CellId) :
    (p.grant j d cs).jobs[k] =
      if k = j then { p.jobs[j] with
        run := p.jobs[j].run + 1#8, cells := cs, result := none, reservation := true,
        defn := some { d with entryTime := 0#48, work := d.work.fresh } }
      else p.jobs[k] := by
  simp [Part.grant, Part.setJob_jobs]

/-- The schedule after a placement: without the job's old entry, with the new one in its place. -/
theorem Part.place_schedule (p : Part) (j : JobId) (purpose : Purpose) (due : Time) :
    (p.place j purpose due).schedule =
      insertEntry { due := due, job := j, purpose := purpose } (p.schedule.filter (fun e => decide (e.job ≠ j))) := rfl

/-- An insertion adds its entry and no other. -/
theorem mem_insertEntry (e x : DeadlineEntry) (l : List DeadlineEntry) : x ∈ insertEntry e l ↔ x = e ∨ x ∈ l := by
  induction l with
  | nil => simp [insertEntry]
  | cons y ys ih =>
    unfold insertEntry
    split
    · simp
    · simp only [List.mem_cons, ih]
      constructor
      · rintro (h | h | h) <;> simp [h]
      · rintro (h | h | h) <;> simp [h]

/-- Everything that an arbitration can do (R160): nothing; begin the oldest reply; or begin the eligible report. -/
theorem Part.arbitrate_cases (p : Part) :
    p.arbitrate = p ∨
    (∃ f rest, p.port.tx = .idle ∧ p.clocked = true ∧ p.port.replies = f :: rest ∧
      p.arbitrate = { p with port := { p.port with replies := rest, tx := .sending f p.time } }) ∨
    (∃ e, p.port.tx = .idle ∧ p.clocked = true ∧ p.port.replies = [] ∧ p.reports.eligible = some e ∧
      p.arbitrate = { p with
        reports := p.reports.begin p.time e, port := { p.port with tx := .sending e.frame p.time } }) := by
  unfold Part.arbitrate
  split
  · exact .inl rfl
  · rename_i htx
    split
    · rename_i hc
      split
      · rename_i f rest hr
        exact .inr (.inl ⟨f, rest, htx, hc, hr, rfl⟩)
      · rename_i hr
        split
        · exact .inl rfl
        · rename_i e he
          exact .inr (.inr ⟨e, htx, hc, hr, he, rfl⟩)
    · exact .inl rfl

/-- The cases of an offer (R133, R135). -/
theorem Part.offer_cases (p : Part) (j : JobId) (time : Time) (content : ReportContent) :
    (p.hasRoom = true ∧
      p.offer j time content = (p.enqueue (some j) p.jobs[j].run time p.jobs[j].lost content).setLost j 0) ∨
    (p.hasRoom = false ∧ p.offer j time content = p.setLost j (satSucc 255 p.jobs[j].lost)) := by
  unfold Part.offer
  split
  · exact .inl ⟨‹_›, rfl⟩
  · exact .inr ⟨Bool.eq_false_iff.2 ‹_›, rfl⟩

/-- What an intake finds when it takes a frame (R159, R162). -/
theorem Part.frameToTake_cases {p : Part} {f : Frame} (h : p.frameToTake = some f) :
    p.port.replies.length < 4 ∧ p.port.resetPending = false ∧
      p.port.rxBuffer = f :: p.dropFrame.port.rxBuffer := by
  unfold Part.frameToTake at h
  split at h
  · obtain ⟨few, open'⟩ := ‹_ ∧ _›
    exact ⟨few, open', by simpa [Part.dropFrame] using (List.cons_head?_tail (by simpa using h)).symm⟩
  · cases h

/-- An intake that takes its frame (R159). -/
theorem Part.command_of_takes {p : Part} {f : Frame} {kind : Byte} {act : Part → List Byte → Verdict}
    (h : p.frameToTake = some f) (hk : f.kind = kind) :
    p.command kind act =
      (((act p.dropFrame f.payload).part p.dropFrame).appendReply
        { kind := f.kind + 0x80#8, tag := f.tag, payload := (act p.dropFrame f.payload).payload }).arbitrate := by
  subst hk
  simp [Part.command, Part.intake, h]

/-- An intake that takes no frame, or another command's, changes nothing. -/
theorem Part.command_of_other {p : Part} {kind : Byte} {act : Part → List Byte → Verdict}
    (h : ∀ f, p.frameToTake = some f → f.kind ≠ kind) : p.command kind act = p := by
  unfold Part.command Part.intake
  split
  · rfl
  · rename_i f hf
    simp [h f hf]

/-- An ending with the bound of its cascade spelled out. -/
theorem Part.endJob_eq (p : Part) (j : JobId) (cause : EndCause) (endTime : Time) (sample : Nat) :
    p.endJob j cause endTime sample =
      Part.endWith (fun q t => Part.cascade 31 q t .linkedStop q.time 0) p j cause endTime sample := rfl

/-- The cascade with one more link allowed. -/
theorem Part.cascade_succ (n : Nat) :
    Part.cascade (n + 1) = Part.endWith (fun q t => Part.cascade n q t .linkedStop q.time 0) := rfl

/-- An ending with no end action (R124). -/
theorem Part.endWith_none {stop : Part → JobId → Part} {p : Part} {j : JobId} {cause : EndCause} {endTime : Time}
    {sample : Nat} (h : p.endActionOf j = none) :
    Part.endWith stop p j cause endTime sample = p.endSteps j cause endTime sample := by
  simp only [Part.endWith, h]

/-- An ending by the loss policy (R124, R129). -/
theorem Part.endWith_linkLost {stop : Part → JobId → Part} {p : Part} {j : JobId} {endTime : Time} {sample : Nat}
    {a : EndAction} (h : p.endActionOf j = some a) :
    Part.endWith stop p j .linkLost endTime sample =
      (p.endSteps j .linkLost endTime sample).recordOutcome j p.reports.nextSeq .suppressed := by
  simp only [Part.endWith, Part.perform, Part.actionOutcome, h, if_true]

/-- An ending with a START link (R125). -/
theorem Part.endWith_start {stop : Part → JobId → Part} {p : Part} {j t : JobId} {cause : EndCause} {endTime : Time}
    {sample : Nat} (h : p.endActionOf j = some (.start t)) (hc : cause ≠ .linkLost) :
    Part.endWith stop p j cause endTime sample =
      ((p.endSteps j cause endTime sample).startLink t).1.recordOutcome j p.reports.nextSeq
        ((p.endSteps j cause endTime sample).startLink t).2 := by
  simp only [Part.endWith, Part.perform, Part.actionOutcome, h, hc, if_false]

/-- The outcome of a STOP link on a live target (R126). -/
@[simp] theorem stopOutcome_live {st : JobState} (h : st.live = true) : stopOutcome st = .done := by
  cases st <;> first | rfl | cases h

/-- An ending with a STOP link (R126). -/
theorem Part.endWith_stop {stop : Part → JobId → Part} {p : Part} {j t : JobId} {cause : EndCause} {endTime : Time}
    {sample : Nat} (h : p.endActionOf j = some (.stop t)) (hc : cause ≠ .linkLost) :
    Part.endWith stop p j cause endTime sample =
      if (p.endSteps j cause endTime sample).jobs[t].state.live then
        (stop (p.endSteps j cause endTime sample) t).recordOutcome j p.reports.nextSeq .done
      else (p.endSteps j cause endTime sample).recordOutcome j p.reports.nextSeq
        (stopOutcome (p.endSteps j cause endTime sample).jobs[t].state) := by
  simp only [Part.endWith, Part.perform, Part.actionOutcome, h, hc, if_false]
  split
  · rw [stopOutcome_live ‹_›]
  · rfl

/-- Everything that an end action can do: nothing, a START link, or the ending of a live target (R27 step 6). -/
theorem Part.perform_cases (stop : Part → JobId → Part) (q : Part) (cause : EndCause) (action : EndAction) :
    Part.perform stop q cause action = q ∨
    (∃ t, cause ≠ .linkLost ∧ action = .start t ∧ Part.perform stop q cause action = (q.startLink t).1) ∨
    (∃ t, cause ≠ .linkLost ∧ action = .stop t ∧ q.jobs[t].state.live = true ∧
      Part.perform stop q cause action = stop q t) := by
  unfold Part.perform
  split
  · exact .inl rfl
  · rename_i hc
    split
    · exact .inr (.inl ⟨_, hc, rfl, rfl⟩)
    · split
      · exact .inr (.inr ⟨_, hc, rfl, ‹_›, rfl⟩)
      · exact .inl rfl

/-- Every ending is its five steps, then the outcome of its action, or of nothing (R27). -/
theorem Part.endWith_cases (stop : Part → JobId → Part) (p : Part) (j : JobId) (cause : EndCause) (endTime : Time)
    (sample : Nat) :
    (p.endActionOf j = none ∧ Part.endWith stop p j cause endTime sample = p.endSteps j cause endTime sample) ∨
    (∃ r o, Part.endWith stop p j cause endTime sample = Part.recordOutcome r j p.reports.nextSeq o ∧
      (r = p.endSteps j cause endTime sample ∨
        (∃ t, r = ((p.endSteps j cause endTime sample).startLink t).1) ∨
        (∃ t, (p.endSteps j cause endTime sample).jobs[t].state.live = true ∧
          r = stop (p.endSteps j cause endTime sample) t))) := by
  unfold Part.endWith
  split
  · exact .inl ⟨‹_›, rfl⟩
  · refine .inr ⟨_, _, rfl, ?_⟩
    obtain h | ⟨t, -, -, h⟩ | ⟨t, -, -, hl, h⟩ := Part.perform_cases stop (p.endSteps j cause endTime sample) cause ‹_›
    · exact .inl h
    · exact .inr (.inl ⟨t, h⟩)
    · exact .inr (.inr ⟨t, hl, h⟩)

@[simp] theorem Job.withOutcome_state (b : Job) (o : LinkOutcome) : (b.withOutcome o).state = b.state := rfl
@[simp] theorem Job.withOutcome_defn (b : Job) (o : LinkOutcome) : (b.withOutcome o).defn = b.defn := rfl
@[simp] theorem Job.withOutcome_run (b : Job) (o : LinkOutcome) : (b.withOutcome o).run = b.run := rfl
@[simp] theorem Job.withOutcome_cells (b : Job) (o : LinkOutcome) : (b.withOutcome o).cells = b.cells := rfl
@[simp] theorem Job.withOutcome_staged (b : Job) (o : LinkOutcome) : (b.withOutcome o).staged = b.staged := rfl
@[simp] theorem Job.withOutcome_lost (b : Job) (o : LinkOutcome) : (b.withOutcome o).lost = b.lost := rfl
@[simp] theorem Job.withOutcome_reservation (b : Job) (o : LinkOutcome) : (b.withOutcome o).reservation = b.reservation := rfl

/-- The job record that steps 1 to 5 of an ending leave (R27). -/
theorem Part.endSteps_jobs_self {p : Part} {j : JobId} {d : Definition} (cause : EndCause) (endTime : Time) (sample : Nat)
    (h : p.jobs[j].defn = some d) :
    let e := d.work.ending p.jobs[j].state cause endTime (p.countOf j) (p.leftAt j endTime) sample
    (p.endSteps j cause endTime sample).jobs[j] =
      { state := .ended, defn := some { d with work := e.work }, run := p.jobs[j].run, cells := [], staged := none,
        result := some { cause := cause, final := e.final, aux := e.aux, endTime := endTime, outcome := .none },
        lost := 0, reservation := false } := by
  simp only [Part.endSteps, Part.workOf_some h]
  simp [Part.admitEnd, Part.freeCellsOf, Part.setWork, show p.jobs[j.val].defn = some d from h]

/-- The record that the reply to a command reports of a job it has ended: ENDED, the result as recorded, with the final outcome
of the end action (R27, R128, R172). -/
theorem Part.endedRecord_eq {p : Part} {j : JobId} {d : Definition} (cause : EndCause) (endTime : Time) (sample : Nat)
    (h : p.jobs[j].defn = some d) :
    let e := d.work.ending p.jobs[j].state cause endTime (p.countOf j) (p.leftAt j endTime) sample
    p.endedRecord j cause endTime sample =
      { state := .ended, defn := some { d with work := e.work }, run := p.jobs[j].run, cells := [], staged := none,
        result := some
          { cause := cause, final := e.final, aux := e.aux, endTime := endTime,
            outcome := match d.endAction with
              | none => .none
              | some action => (p.endSteps j cause endTime sample).actionOutcome cause action },
        lost := 0, reservation := false } := by
  have hs := Part.endSteps_jobs_self cause endTime sample h
  have ha : p.endActionOf j = d.endAction := by simp only [Part.endActionOf, h]
  simp only [Part.endedRecord, ha]
  cases hd : d.endAction with
  | none => simpa [hd] using hs
  | some action => simp only [hs, Job.withOutcome, Option.map_some, hd]

end Sys2Proof.Machine
end

