-- ==== Sys2Proof/Laws/Times.lean ====
section
/-! SUPPORT. Device times as distances from the present: what `ahead`, `reached`, `earlier` and a placement come to within half
the range of the clock, and the times that READ shows. -/

namespace Sys2Proof.Machine

open Sys2Proof

theorem ahead_eq (now t : Time) :
    ahead now t = if 2 * (t - now).toNat < 2 ^ 48 then ((t - now).toNat : Int) else ((t - now).toNat : Int) - 2 ^ 48 := by
  simp only [ahead, BitVec.toInt_eq_toNat_cond]
  split <;> simp

@[simp] theorem ahead_self (t : Time) : ahead t t = 0 := by simp [ahead]

/-- A due time is reached exactly when it does not lie ahead (R31). -/
theorem reached_iff_ahead {now t : Time} (h : -2 ^ 47 < ahead now t) : reached now t = true ↔ ahead now t ≤ 0 := by
  rw [ahead_eq] at *
  simp only [reached, decide_eq_true_eq]
  have h1 := BitVec.toNat_sub t now
  have h2 := BitVec.toNat_sub now t
  split at h <;> omega

/-- One device time is earlier than another exactly when it lies less far ahead (R80). -/
theorem earlier_iff_ahead {now a b : Time} (ha : -2 ^ 46 < ahead now a ∧ ahead now a < 2 ^ 46)
    (hb : -2 ^ 46 < ahead now b ∧ ahead now b < 2 ^ 46) : earlier a b = true ↔ ahead now a < ahead now b := by
  rw [ahead_eq] at *
  rw [ahead_eq] at *
  simp only [earlier, Bool.and_eq_true, decide_eq_true_eq]
  have h1 := BitVec.toNat_sub a now
  have h2 := BitVec.toNat_sub b now
  have h3 := BitVec.toNat_sub b a
  split at ha <;> split at hb <;> omega

/-- A later time lies that much further ahead. -/
theorem ahead_plus {now t : Time} {n : Nat} (h : ahead now t + n < 2 ^ 47) : ahead now (plus t n) = ahead now t + n := by
  rw [ahead_eq] at *
  rw [ahead_eq]
  have h1 := BitVec.toNat_sub t now
  have h2 := BitVec.toNat_sub (plus t n) now
  have h3 : (plus t n).toNat = (t.toNat + n % 2 ^ 48) % 2 ^ 48 := by
    simp only [plus, BitVec.toNat_add, BitVec.toNat_ofNat]
  split at h <;> split <;> omega

/-- As device time runs on by a microsecond, every time comes one nearer (R30). -/
theorem ahead_advance {now t : Time} (h : -2 ^ 47 < ahead now t) : ahead (now + 1#48) t = ahead now t - 1 := by
  rw [ahead_eq] at *
  rw [ahead_eq]
  have h1 := BitVec.toNat_sub t now
  have h2 := BitVec.toNat_sub t (now + 1#48)
  have h3 : (now + 1#48).toNat = (now.toNat + 1) % 2 ^ 48 := by simp only [BitVec.toNat_add, BitVec.toNat_ofNat]
  split at h <;> split <;> omega

/-- An insertion into a schedule in order leaves it in order (R80). -/
theorem insertEntry_sorted {now : Time} {e : DeadlineEntry} {l : List DeadlineEntry}
    (he : -2 ^ 46 < ahead now e.due ∧ ahead now e.due < 2 ^ 46)
    (hl : ∀ x ∈ l, -2 ^ 46 < ahead now x.due ∧ ahead now x.due < 2 ^ 46)
    (h : l.Pairwise (fun a b => ahead now a.due ≤ ahead now b.due)) :
    (insertEntry e l).Pairwise (fun a b => ahead now a.due ≤ ahead now b.due) := by
  induction l with
  | nil => simp [insertEntry]
  | cons y ys ih =>
    rw [List.pairwise_cons] at h
    have hy := hl y List.mem_cons_self
    unfold insertEntry
    split
    · rename_i hlt
      have := (earlier_iff_ahead he hy).1 hlt
      refine List.pairwise_cons.2 ⟨fun x hx => ?_, List.pairwise_cons.2 h⟩
      rcases List.mem_cons.1 hx with rfl | hx
      · omega
      · have := h.1 x hx; omega
    · rename_i hlt
      have hle : ¬ ahead now e.due < ahead now y.due := fun hc => hlt ((earlier_iff_ahead he hy).2 hc)
      refine List.pairwise_cons.2 ⟨fun x hx => ?_, ih (fun x hx => hl x (List.mem_cons_of_mem _ hx)) h.2⟩
      rcases (mem_insertEntry e x ys).1 hx with rfl | hx
      · omega
      · exact h.1 x hx

/-! ### The times that READ shows (R78, R108, R120) -/

@[simp] theorem timeTo_self (overdue : Time → Time → Nat) (largest : Nat) (t : Time) : timeTo overdue largest t t = 0 := by
  simp [timeTo]

/-- An event that lies ahead is shown by its distance. -/
theorem timeTo_of_not_reached {overdue : Time → Time → Nat} {largest : Nat} {now due : Time} (h : reached now due = false) :
    timeTo overdue largest now due = (due - now).toNat := by
  have hne : now ≠ due := by
    rintro rfl
    simp [reached] at h
  simp [timeTo, h, hne]

/-- An event that does not lie ahead is shown by a number within the range of its field, whatever the free value. -/
theorem timeTo_le {overdue : Time → Time → Nat} {largest : Nat} {now due : Time} (h : reached now due = true) :
    timeTo overdue largest now due ≤ largest := by
  unfold timeTo
  split
  · exact Nat.zero_le _
  · simp

end Sys2Proof.Machine
end

