-- ==== Sys2Proof/Tests/Slice0.lean ====
section
/-! SUPPORT. Small tests of single steps, their expected values taken from the manual or worked out by hand from its rules, and
for every obligation with hypotheses a witness: concrete states and operands that meet them together. -/

namespace Sys2Proof.Tests

set_option Elab.async false

open Sys2Proof Sys2Proof.Machine

/-! ### States to test on -/

/-- A frame as the receiver leaves it in the buffer, with tag 7. -/
def frame (kind : Byte) (payload : List Byte) : Frame := { kind := kind, tag := 0x07#8, payload := payload }

/-- A state with one frame in its receive buffer. -/
def given (s : State) (kind : Byte) (payload : List Byte) : State :=
  { s with port := { s.port with rxBuffer := [frame kind payload] } }

/-- The state after reset once every report has been acknowledged. -/
def quiet : State := { State.reset with reports := { State.reset.reports with queue := [] } }

/-- `quiet` with job record 1 replaced. -/
def having (b : Job) : State := { quiet with jobs := quiet.jobs.set 0 b }

/-- A definition with no end action. -/
def plain (output : Option OutputUse) (w : Work) : Definition :=
  { startMode := .immediate, endAction := none, output := output, entryTime := 0#48, work := w }

/-- A record in a state, with run 1. -/
def job (st : JobState) (d : Definition) (cells : List CellId) : Job :=
  { state := st, defn := some d, run := 1#8, cells := cells, staged := none, result := none, lost := 0,
    reservation := st.live }

/-- Job 1 has begun: its cell and its line are its own, at the given count, phase and level. -/
def live (st : JobState) (d : Definition) (count : BitVec 16) (phase : Option CellPhase) (line : Option (OutId × Level)) :
    State :=
  let s := having (job st d [0])
  let s := { s with cells := s.cells.set 0 { owner := some 0, count := count, phase := phase } }
  match line with
  | none => s
  | some (o, l) => { s with outputs := s.outputs.set o.val { level := l, owner := some 0 } o.isLt }

/-- The state at a device time. -/
def atTime (t : Time) (s : State) : State := { s with time := t }

/-- The state with one entry in its schedule, for job 1. -/
def due (purpose : Purpose) (t : Time) (s : State) : State :=
  { s with schedule := [{ due := t, job := 0, purpose := purpose }] }

/-- The state with one edge outstanding to job 1. -/
def edge (e : Edge) (s : State) : State :=
  { s with deliveries := [{ job := 0, edge := e, acceptedIn := s.jobs[(0 : JobId)].state }] }

/-- The part after a step; the part as it was if the step has no next state. -/
def after (i : Instr) (s : State) : Part :=
  match exec i s with
  | .next t => t.toPart
  | .fault _ => s.toPart
  | .refused _ => s.toPart

/-- The payload of the frame in transmission. -/
def sent (p : Part) : List Byte :=
  match p.port.tx with
  | .idle => []
  | .sending f _ => f.payload

def countFresh : CountProgress := { count := 0, blocked := 0 }
def measureFresh : MeasureProgress :=
  { accepted := 0, last := none, minimum := none, maximum := none, sinceReport := 0, interval := none, stallRef := none,
    windowStart := none }
def waveFresh : WaveProgress := { pulses := 0#32, phase := none, periodStart := none, turnsLeft := 0 }
def echoFresh : EchoProgress := { pendingList := [], pulse := none, pulses := 0#32, missed := 0, slipped := 0, cut := 0 }

def countParams : CountParams := { source := 3, edge := .rising, width := .w16, gate := none, limit := 2, step := 1 }
def measureParams (mode : MeasureMode) : MeasureParams :=
  { source := 3, mode := mode, lowLimit := 0, highLimit := 500, stall := false, reportInterval := 1 }
def waveParams : WaveParams := { period := 70000, width := 66000, limit := 2 }
def echoParams : EchoParams := { source := 3, edge := .rising, delay := 300, width := 40, overlap := .queue, limit := 0 }

def countJob : Definition := plain none (.count countParams countFresh)
def periodJob : Definition := plain none (.measure (measureParams .period) measureFresh)
def rateJob : Definition := plain none (.measure (measureParams (.rate .rising 1000)) measureFresh)
def delayJob : Definition := plain (some { line := 6, idle := .low }) (.delay { duration := 1000 } { remaining := 1000 })
def tickJob : Definition := plain none (.tick { period := 1000, limit := 5 } { ticksDone := 0#32, remaining := 1000 })
def waveJob (g : WaveProgress) : Definition := plain (some { line := 3, idle := .low }) (.wave waveParams g)
def echoJob (g : EchoProgress) : Definition := plain (some { line := 5, idle := .low }) (.echo echoParams g)

/-- A RUNNING TICK job whose end action is START itself. -/
def selfStarting : State :=
  { having (job .running { tickJob with endAction := some (.start 0) } []) with
    reports := { quiet.reports with reservations := 1 } }

/-- A line at LOW with a change to HIGH under filtering. -/
def rising (filter : Nat) (firstSeen : Time) (filterTime : Nat) : InputLine :=
  { filter := filter, filtered := .low, change := some { level := .high, firstSeen := firstSeen, filterTime := filterTime } }

/-- The edge of the example of section 2.5. -/
def risingEdge : Edge := { line := 3, polarity := .rising, edgeTime := 10010#48, acceptance := 10015#48 }

/-- A WAVE job within a phase that began at 0. -/
def waving (phase : WavePhase) (length turns : Nat) (t : Time) : State :=
  atTime t (live .running (waveJob { waveFresh with phase := some phase, periodStart := some 0#48, turnsLeft := turns }) 0#16
    (some { start := 0#48, length := length }) (some (3, .high)))

/-- An ECHO job within its first pulse, from 1,000 to 1,040. -/
def echoing (pendingList : List PendingPulse) (t : Time) : State :=
  atTime t (live .running
    (echoJob { echoFresh with pendingList := pendingList, pulse := some { beginTime := 1000#48, endTime := 1040#48 } }) 0#16
    (some { start := 1000#48, length := 40 }) (some (5, .high)))

/-- Three entries as R138 orders them: SENT, RESEND, NEW. -/
def threeReports : List ReportEntry :=
  [{ restartEntry .power 0#48 with seq := 40#16, delivery := .sent },
   { restartEntry .power 0#48 with seq := 41#16, delivery := .resend },
   { restartEntry .power 0#48 with seq := 42#16 }]

/-- `quiet` with the three entries and the timer running to 200,000. -/
def queued : State :=
  { quiet with reports := { quiet.reports with queue := threeReports, nextSeq := 43#16, timer := some 200000#48 } }

/-- The receiver in a state, at the first time at which a byte can be received. -/
def receiving (st : RxState) (f : Option RxFrame) : State :=
  { quiet with
    time := 82#48
    port := { quiet.port with rxState := st, rxFrame := f, gapExpiry := f.map (fun _ => 5082#48) } }

/-- The frame of a TIME command with tag 8, on the line. -/
def timeWire : List Byte := (({ kind := 0x11#8, tag := 0x08#8, payload := [] } : Frame).wire)

/-! ### Which terms are well formed -/

theorem test_line_16_is_refused :
    wellFormed (.changeUnderFiltering 16 .high) = false ∧ wellFormed (.edgeAcceptance 16) = false ∧
    wellFormed (.changeUnderFiltering 15 .high) = true ∧ wellFormed (.edgeAcceptance 15) = true := by decide

theorem test_job_0_is_refused :
    wellFormed (.edgeDelivery 0) = false ∧ wellFormed (.activePhaseEvent 0) = false ∧ wellFormed (.periodEnd 0) = false ∧
    wellFormed (.pulseEnd 0) = false ∧ wellFormed (.turnEnd 0) = false ∧ wellFormed (.lossPolicy 0) = false := by decide

theorem test_job_33_is_refused :
    wellFormed (.edgeDelivery 33) = false ∧ wellFormed (.activePhaseEvent 33) = false ∧ wellFormed (.periodEnd 33) = false ∧
    wellFormed (.pulseEnd 33) = false ∧ wellFormed (.turnEnd 33) = false ∧ wellFormed (.lossPolicy 33) = false := by decide

theorem test_ill_formed_steps_refuse_by_name (s : State) :
    exec (.changeUnderFiltering 16 .high) s = .refused .noSuchLine ∧ exec (.edgeAcceptance 16) s = .refused .noSuchLine ∧
    exec (.edgeDelivery 0) s = .refused .noSuchJob ∧ exec (.lossPolicy 33) s = .refused .noSuchJob :=
  ⟨rfl, rfl, rfl, rfl⟩

/-! ### The commands -/

/-- R153, note 1. -/
theorem test_crc_of_nine_digits :
    crc [0x31#8, 0x32#8, 0x33#8, 0x34#8, 0x35#8, 0x36#8, 0x37#8, 0x38#8, 0x39#8] = 0x29B1#16 := by decide +kernel

/-- R176. -/
theorem test_ident_reply :
    sent (after .ident (given quiet 0x01#8 [])) =
      [0x00#8, 0x00#8, 0x32#8, 0x16#8, 0x01#8, 32#8, 24#8, 16#8, 8#8, 64#8, 8#8, 8#8, 2#8, 4#8, 200#8] := by decide +kernel

/-- R170: DEFINE 1 as a DELAY of 1,000 µs on OUT6, idle LOW. -/
theorem test_define_delay :
    (after .define (given quiet 0x02#8 [0x01#8, 0x03#8, 0x00#8, 0xFF#8, 0x00#8, 0x00#8, 0x00#8, 0x06#8, 0x00#8, 0x00#8, 0x00#8,
      0x03#8, 0xE8#8])).jobs[(0 : JobId)] = { job .defined delayJob [] with run := 0#8 } := by decide +kernel

/-- R5, R170: an output line above OUT7 is BAD_LINE at field 8, before the state is looked at. -/
theorem test_define_bad_line :
    sent (after .define (given (having (job .running tickJob [])) 0x02#8 [0x01#8, 0x03#8, 0x00#8, 0xFF#8, 0x00#8, 0x00#8,
      0x00#8, 0x08#8, 0x00#8, 0x00#8, 0x00#8, 0x03#8, 0xE8#8])) = [0x04#8, 0x08#8] := by decide +kernel

/-- R86, section 2.5: START of a DELAY job drives its line HIGH and places EXPIRY one duration later. -/
theorem test_start_delay :
    (after .start (given (atTime 20100#48 (having (job .defined delayJob []))) 0x03#8 [0x01#8])).schedule =
      [{ due := 21100#48, job := 0, purpose := .expiry }] ∧
    (after .start (given (atTime 20100#48 (having (job .defined delayJob []))) 0x03#8 [0x01#8])).outputs[(6 : OutId)] =
      { level := .high, owner := some 0 } := by decide +kernel

/-- R13: STOP with finish set lets a RUNNING TICK job reach its next tick; R12: without it the job ends. -/
theorem test_stop_tick :
    (after .stop (given (having (job .running tickJob [])) 0x04#8 [0x01#8, 0x01#8])).jobs[(0 : JobId)].state = .stopping ∧
    (after .stop (given (having (job .running tickJob [])) 0x04#8 [0x01#8, 0x00#8])).jobs[(0 : JobId)].state = .ended := by
  decide +kernel

/-- R130, R172: STOP of a job whose end action is START itself: the job runs again, and the reply reports the run that has ended
(run 1, ENDED, HOST_STOP, outcome DONE). -/
theorem test_stop_reports_the_ended_run :
    (after .stop (given selfStarting 0x04#8 [0x01#8, 0x00#8])).jobs[(0 : JobId)].state = .running ∧
    (after .stop (given selfStarting 0x04#8 [0x01#8, 0x00#8])).jobs[(0 : JobId)].run = 2#8 ∧
    sent (after .stop (given selfStarting 0x04#8 [0x01#8, 0x00#8])) =
      [0x00#8, 0x00#8, 0x01#8, 0x06#8, 0x04#8, 0x01#8, 0x00#8, 0x00#8, 0x00#8, 0x00#8, 0x00#8, 0x00#8, 0x00#8, 0x00#8, 0x07#8,
       0x00#8, 0x00#8, 0x00#8, 0x00#8, 0x00#8, 0x00#8, 0x00#8, 0x03#8, 0xE8#8, 0x01#8] := by decide +kernel

/-- R88, section 5.4: HOLD of a DELAY saves the time left. -/
theorem test_hold_delay :
    (after .hold (given (due .expiry 700#48 (atTime 300#48 (live .running delayJob 0#16 none (some (6, .high))))) 0x05#8
      [0x01#8])).workOf 0 = some (.delay { duration := 1000 } { remaining := 400 }) := by decide +kernel

/-- R88: RESUME places the EXPIRY entry after the saved time. -/
theorem test_resume_delay :
    (after .resume (given (atTime 5000#48 (live .held delayJob 0#16 none (some (6, .low)))) 0x06#8 [0x01#8])).schedule =
      [{ due := 6000#48, job := 0, purpose := .expiry }] := by decide +kernel

/-- R96: ALTER of a RUNNING TICK stages the period. -/
theorem test_alter_stages_tick :
    (after .alter (given (having (job .running tickJob [])) 0x07#8 [0x01#8, 0x04#8, 0x00#8, 0x00#8, 0x07#8,
      0xD0#8])).jobs[(0 : JobId)].staged = some (.period 2000) := by decide +kernel

/-- R17: ALTER of a DELAY is WRONG_KIND. -/
theorem test_alter_delay_wrong_kind :
    sent (after .alter (given (having (job .running delayJob [])) 0x07#8 [0x01#8, 0x03#8])) = [0x07#8, 0x00#8] := by
  decide +kernel

/-- R174: the kind part of a READ of a DEFINED TICK job: ticks 0, present, 1,000, period 1,000, limit 5, no staged period. -/
theorem test_read_tick :
    (sent (after .read (given (having (job .defined tickJob [])) 0x08#8 [0x01#8]))).drop 40 =
      [0x00#8, 0x00#8, 0x00#8, 0x00#8, 0x01#8, 0x00#8, 0x00#8, 0x03#8, 0xE8#8, 0x00#8, 0x00#8, 0x03#8, 0xE8#8, 0x00#8, 0x05#8,
       0x00#8, 0x00#8, 0x00#8, 0x00#8] := by decide +kernel

/-- R20. -/
theorem test_delete_and_list :
    (after .delete (given (having (job .defined tickJob [])) 0x09#8 [0x01#8])).jobs[(0 : JobId)] = Job.free ∧
    (sent (after .list (given (having (job .defined tickJob [])) 0x0A#8 []))).length = 104 := by decide +kernel

/-- R140: the ACK of 41 removes 40 and 41; 42 is NEW, so its ACK is bad; 39 is stale. -/
theorem test_ack_three_ways :
    sent (after .ack (given queued 0x0B#8 [0x00#8, 41#8])) = [0x00#8, 0x00#8, 0x02#8, 0x00#8, 42#8] ∧
    sent (after .ack (given queued 0x0B#8 [0x00#8, 42#8])) = [0x0B#8, 0x00#8] ∧
    sent (after .ack (given queued 0x0B#8 [0x00#8, 39#8])) = [0x00#8, 0x00#8, 0x00#8, 0x00#8, 40#8] := by decide +kernel

/-- R146. -/
theorem test_reconnect_resends :
    (after .reconnect (given queued 0x0C#8 [])).reports.queue.map (fun e => e.delivery) = [.resend, .resend, .new] := by
  decide +kernel

/-- R147: an interval of 9 ms is BAD_PARAM at field 1; 10 ms is taken. -/
theorem test_linkcfg_interval :
    sent (after .linkcfg (given quiet 0x0D#8 [0x00#8, 9#8, 1#8, 0#8])) = [0x05#8, 0x01#8] ∧
    (after .linkcfg (given quiet 0x0D#8 [0x00#8, 10#8, 1#8, 0#8])).reports.interval = 10 := by decide +kernel

/-- R177. -/
theorem test_linecfg_sets_filter :
    (after .linecfg (given quiet 0x0E#8 [0x03#8, 20#8])).inputs[(3 : InId)].filter = 20 ∧
    sent (after .linecfg (given quiet 0x0E#8 [0x03#8, 64#8])) = [0x05#8, 0x02#8] := by decide +kernel

/-- R41, section 2.5: DRIVE OUT6 HIGH, then LINE_BUSY while a job owns it. -/
theorem test_drive :
    (after .drive (given quiet 0x0F#8 [0x06#8, 0x01#8])).outputs[(6 : OutId)] = { level := .high, owner := none } ∧
    sent (after .drive (given (live .running delayJob 0#16 none (some (6, .high))) 0x0F#8 [0x06#8, 0x00#8])) =
      [0x09#8, 0x01#8] := by decide +kernel

/-- R177: the output levels stand in byte 27 of the body: OUT6 is bit 6. -/
theorem test_sense_outputs :
    (sent (after .sense (given (live .running delayJob 0#16 none (some (6, .high))) 0x10#8 []))).drop 28 =
      [0x40#8, 0#8, 0#8, 0#8, 0#8, 0#8, 0#8, 1#8, 0#8] := by decide +kernel

/-- R176. -/
theorem test_time_reply :
    sent (after .time (given (atTime 0x010203040506#48 quiet) 0x11#8 [])) =
      [0x00#8, 0x00#8, 1#8, 2#8, 3#8, 4#8, 5#8, 6#8] := by decide +kernel

/-- R161, section 9.8: NOISE 4, GAP 1, CRC 1, cleared after they are read. -/
theorem test_linkstat_clears :
    sent (after .linkstat (given { quiet with port := { quiet.port with
      errors := { ErrorCounters.zero with noise := 4, gap := 1, crc := 1 } } } 0x12#8 [0x01#8])) =
      [0#8, 0#8, 0#8, 4#8, 0#8, 0#8, 0#8, 1#8, 0#8, 1#8, 0#8, 0#8, 0#8, 0#8, 0#8, 0#8, 0#8, 0#8] ∧
    (after .linkstat (given { quiet with port := { quiet.port with
      errors := { ErrorCounters.zero with noise := 4 } } } 0x12#8 [0x01#8])).port.errors = ErrorCounters.zero := by
  decide +kernel

/-- R162. -/
theorem test_reset_closes :
    (after .reset (given quiet 0x13#8 [])).port.rxState = .closed ∧ (after .reset (given quiet 0x13#8 [])).port.resetPending =
      true := by decide +kernel

/-- R166: kind 0x14 is unknown. -/
theorem test_unknown_kind :
    sent (after .unknownKind (given quiet 0x14#8 [1#8])) = [0x01#8, 0x00#8] := by decide +kernel

/-! ### The events -/

/-- Section 2.5, steps 1 and 2: a glint starts a change and a sample back at LOW drops it. -/
theorem test_glint_is_dropped :
    (after (.changeUnderFiltering 3 .high) (atTime 10000#48 quiet)).inputs[(3 : InId)].change =
      some { level := .high, firstSeen := 10000#48, filterTime := 2 } ∧
    (after (.changeUnderFiltering 3 .low) { quiet with
      time := 10001#48
      inputs := quiet.inputs.set 3 (rising 2 10000#48 2) }).inputs[(3 : InId)].change = none := by decide +kernel

/-- Section 2.5, step 5: accepted at 10,015 with edge time 10,010. -/
theorem test_edge_acceptance :
    (after (.edgeAcceptance 3) { live .running (echoJob echoFresh) 0#16 none none with
      time := 10015#48
      inputs := quiet.inputs.set 3 (rising 20 10010#48 5) }).deliveries =
      [{ job := 0, edge := risingEdge, acceptedIn := .running }] := by decide +kernel

/-- Section 2.5, steps 6 and 7: the COUNT job counts the edge; the ECHO job takes it for 10,310. -/
theorem test_edge_delivery :
    (after (.edgeDelivery 1) (edge risingEdge (live .running countJob 0#16 none none))).cells[(0 : CellId)].count = 1#16 ∧
    (after (.edgeDelivery 1) (edge risingEdge (live .running (echoJob echoFresh) 0#16 none none))).schedule =
      [{ due := 10310#48, job := 0, purpose := .echoDue }] := by decide +kernel

/-- Section 2.5: EXPIRED at 21,100 leaves OUT6 LOW and unowned. -/
theorem test_expiry :
    (after .expiry (due .expiry 21100#48 (atTime 21100#48 (live .running delayJob 0#16 none (some (6, .high)))))).jobs[(0 :
      JobId)].result = some { cause := .expired, final := 1000, aux := 0, endTime := 21100#48, outcome := .none } ∧
    (after .expiry (due .expiry 21100#48 (atTime 21100#48 (live .running delayJob 0#16 none (some (6, .high)))))).outputs[(6 :
      OutId)] = { level := .low, owner := none } := by decide +kernel

/-- R92: a tick is numbered 1 and the next one is due a period after it, not after it was taken. -/
theorem test_tick :
    (after .tick (due .tick 1000#48 (atTime 1003#48 (live .running tickJob 0#16 none none)))).schedule =
      [{ due := 2000#48, job := 0, purpose := .tick }] := by decide +kernel

/-- R71: the final value of a STALL is the high limit plus 1. -/
theorem test_stall :
    (after .stall (due .stall 600#48 (atTime 600#48 (live .running periodJob 0#16 none none)))).jobs[(0 : JobId)].result =
      some { cause := .stall, final := 501, aux := 0, endTime := 600#48, outcome := .none } := by decide +kernel

/-- R68: the count of the window is the sample, and the next window starts with count 0. -/
theorem test_window_end :
    (after .windowEnd (due .window 1000#48 (atTime 1000#48 (live .running rateJob 42#16 none none)))).cells[(0 :
      CellId)].count = 0#16 ∧
    (after .windowEnd (due .window 1000#48 (atTime 1000#48 (live .running rateJob 42#16 none none)))).reports.queue.map
      (fun e => e.content) = [.sample 42 1] := by decide +kernel

/-- R114: the pulse of a head that is due at 1,000 with width 40. -/
theorem test_echo_due :
    (after .echoDue (due .echoDue 1000#48 (atTime 1000#48 (live .running
      (echoJob { echoFresh with pendingList := [{ due := 1000#48, width := 40 }] }) 0#16 none (some (5, .low)))))).outputs[(5 :
      OutId)].level = .high := by decide +kernel

/-- R102: after 66,000 µs the line goes idle for 4,000. -/
theorem test_active_phase_event :
    (after (.activePhaseEvent 1) (waving .active 66000 0 66000#48)).outputs[(3 : OutId)].level = .low ∧
    (after (.activePhaseEvent 1) (waving .active 66000 0 66000#48)).cells[(0 : CellId)].phase =
      some { start := 66000#48, length := 4000 } := by decide +kernel

/-- R103: the first of two periods ends and the next one begins. -/
theorem test_period_end :
    (after (.periodEnd 1) (waving .idle 4000 0 4000#48)).workOf 0 =
      some (.wave waveParams { pulses := 1#32, phase := some .active, periodStart := some 4000#48, turnsLeft := 1 }) := by
  decide +kernel

/-- R115: the pulse is counted and the line goes idle. -/
theorem test_pulse_end :
    (after (.pulseEnd 1) (echoing [] 1040#48)).workOf 0 = some (.echo echoParams { echoFresh with pulses := 1#32 }) ∧
    (after (.pulseEnd 1) (echoing [] 1040#48)).outputs[(5 : OutId)].level = .low := by decide +kernel

/-- R100: a phase of 66,000 has one whole turn, which ends at 65,536. -/
theorem test_turn_end :
    (after (.turnEnd 1) (waving .active 66000 1 65536#48)).workOf 0 =
      some (.wave waveParams { waveFresh with phase := some .active, periodStart := some 0#48 }) ∧
    after (.turnEnd 1) (waving .active 66000 1 65535#48) = (waving .active 66000 1 65535#48).toPart := by decide +kernel

/-- R143: with the defaults the first expiry resends, and the fifth declares the link LOST. -/
theorem test_retransmit_timer :
    (after .retransmitTimerExpiry (atTime 200000#48 { queued with port := { queued.port with
      tx := .sending (frame 0x80#8 []) 199999#48 } })).reports.queue.map (fun e => e.delivery) = [.resend, .resend, .new] ∧
    (after .retransmitTimerExpiry (atTime 200000#48 { queued with reports := { queued.reports with
      retry := 4 } })).reports.link = .lost := by decide +kernel

/-- R145: HOLD_ALL holds a RUNNING job. -/
theorem test_loss_policy_holds :
    (after (.lossPolicy 1) { having (job .running tickJob []) with reports := { quiet.reports with
      lossDeliveries := [{ job := 0, policy := .holdAll, lostAt := 5#48 }] } }).jobs[(0 : JobId)].state = .held := by
  decide +kernel

/-- R154. -/
theorem test_byte_received :
    (after (.byteReceived ⟨0xB5#8, .high, 695⟩) (receiving .hunt none)).port.rxState = .length ∧
    (after (.byteReceived ⟨0x00#8, .high, 695⟩) (receiving .hunt none)).port.errors.noise = 1 := by decide +kernel

/-- R151: ten bit times at 115,200 baud are 694.4 periods of REFCLK. After a reset a byte that RXD was high for 694 before is not
taken, nor one with byte time 50, which began before the completion; a character with a low stop bit counts nowhere. -/
theorem test_receiver_awaits_high :
    (after (.byteReceived ⟨0x00#8, .high, 694⟩) (receiving .hunt none)).port.errors.noise = 0 ∧
    (after (.byteReceived ⟨0x00#8, .high, 695⟩) (atTime 50#48 quiet)).port.errors.noise = 0 ∧
    (after (.byteReceived ⟨0x00#8, .low, 695⟩) (receiving .hunt none)).port.errors.noise = 0 ∧
    (after (.byteReceived ⟨0x00#8, .low, 695⟩) (receiving .hunt none)).port.rxAwaitsHigh = false := by decide +kernel

/-- R48: an edge accepted while the job was HELD is not counted once the job runs again. -/
theorem test_edge_accepted_while_held :
    (after (.edgeDelivery 1) { live .running countJob 0#16 none none with
      deliveries := [{ job := 0, edge := risingEdge, acceptedIn := .held }] }).cells[(0 : CellId)].count = 0#16 := by
  decide +kernel

/-- Section 9.8, step 5. -/
theorem test_gap_expiry :
    (after .gapExpiry (atTime 5082#48 (receiving .body (some { taken := [0xB5#8, 2#8], expected := 2 })))).port.errors.gap =
      1 := by decide +kernel

/-- R156. -/
theorem test_break :
    (after .breakSeen (receiving .length (some { taken := [0xB5#8], expected := 0 }))).port.errors.breaks = 1 ∧
    (after .breakEnd { quiet with port := { quiet.port with inBreak := true } }).port.inBreak = false := by decide +kernel

/-- R151, R156: a break lasts over a pin reset, and at its end after the completion 19.5 bit times at 115,200 baud follow. -/
theorem test_break_over_pin_reset :
    let s := quiet.withPart (after (.pinResetCompletion 0#2 0#16)
      (quiet.withPart (after .pinReset { quiet with port := { quiet.port with inBreak := true } })))
    s.port.inBreak = true ∧ (after .breakEnd s).port.rxReadyAt = some 169#48 := by decide +kernel

/-- R160: the reply that waits goes before the report. -/
theorem test_frame_end_prefers_reply :
    (after .txFrameEnd { State.reset with
      time := 520#48
      port := { State.reset.port with
        tx := .sending (frame 0x91#8 []) 0#48, replies := [frame 0x81#8 [9#8]] } }).port.tx =
      .sending (frame 0x81#8 [9#8]) 520#48 := by decide +kernel

/-- The end of a RESET reply of status OK, 8 bytes at 115,200 baud. -/
def resetReplySent : State :=
  { having (job .running tickJob []) with
    time := 694#48
    port := { quiet.port with
      tx := .sending (frame 0x93#8 [0x00#8, 0x00#8]) 0#48, resetPending := true, rxState := .closed } }

/-- R163: the RESTART report carries cause COMMAND and the time of the execution. -/
theorem test_command_reset :
    (after (.commandResetExecution 0x0008#16) resetReplySent).reports.queue = [restartEntry .command 694#48] ∧
    (after (.commandResetExecution 0x0008#16) resetReplySent).inputs[(3 : InId)].filtered = .high := by decide +kernel

/-- R151 at 115,200 baud: a byte can come 82 µs after the command reset, or at the end of a wait that is still on; CLOSED discards
a character without effect. -/
theorem test_command_reset_keeps_later_wait :
    (after (.commandResetExecution 0#16) resetReplySent).port.rxReadyAt = some 776#48 ∧
    (after (.commandResetExecution 0#16) { resetReplySent with port := { resetReplySent.port with
      rxReadyAt := some 850#48 } }).port.rxReadyAt = some 850#48 ∧
    (after (.byteReceived ⟨0x0F#8, .high, 695⟩) (atTime 690#48 resetReplySent)).port = resetReplySent.port := by decide +kernel

/-- R175: the END report of job 32, run 3, sequence 258, at 513 µs, lost 4, HIGH_EXCEEDED with 2^32 and 7, outcome SUPPRESSED. -/
theorem test_report_frame :
    ({ seq := 258#16, job := some 31, run := 3#8, time := 513#48, lost := 4,
       content := .ended .highExceeded 4294967296 7 .suppressed, delivery := .new, thisStart := true } : ReportEntry).frame =
      { kind := 0x44#8, tag := 0x00#8,
        payload := [1#8, 2#8, 32#8, 3#8, 0#8, 0#8, 0#8, 0#8, 2#8, 1#8, 4#8, 3#8, 1#8, 0#8, 0#8, 0#8, 0#8, 0#8, 0#8, 0#8, 7#8, 8#8] } := by
  decide +kernel

/-- R44. -/
theorem test_pin_reset :
    (after .pinReset (atTime 99#48 quiet)).time = 0#48 ∧
    (after (.pinResetCompletion 0b10#2 0#16) { quiet with resetHold := .pin }).port.baud = .b460800 := by decide +kernel

/-- R44. -/
theorem test_power_on_reset :
    (after .powerOnReset (atTime 99#48 quiet)).resetHold = .power ∧
    (after (.powerOnResetCompletion 0b11#2 0#16) { quiet with resetHold := .power }).reports.queue =
      [restartEntry .power 0#48] := by decide +kernel

/-- R30. -/
theorem test_refclk :
    (after .refclkStopped quiet).refclk = false ∧
    (after .refclkResumed { quiet with refclk := false }).refclk = true := by decide +kernel

/-- R151: the wait is over at 82 µs and stays over. -/
theorem test_wait_ends_as_time_runs :
    (atTime 80#48 quiet).toPart.advance.port.rxReadyAt = some 82#48 ∧
    (atTime 81#48 quiet).toPart.advance.port.rxReadyAt = none := by decide +kernel

/-! ### Witnesses: the hypotheses of each obligation are met together -/

theorem witness_EmptyQueueIdles :
    (State.reset.pending = [] ∧ State.reset.txReady = true) ∧
    (quiet.pending = [] ∧ quiet.txReady = false ∧ quiet.enabled = [] ∧ quiet.clocked = true) ∧
    ((given quiet 0x11#8 []).txReady = false ∧ (given quiet 0x11#8 []).enabled ≠ []) ∧
    ({ quiet with refclk := false }.txReady = false ∧ { quiet with refclk := false }.enabled = [] ∧
      { quiet with refclk := false }.clocked = false) ∧
    (quiet.port.rxReadyAt = some 82#48 ∧ reached 81#48 82#48 = false ∧ reached 82#48 82#48 = true) ∧
    (∀ opened : OpenInterval, opened = { openedAt := 5#48, aged := false } →
      ∃ d m g, (having (job .running d [0])).jobs[(0 : JobId)].defn = some d ∧ d.work = .measure m g ∧
        g.interval = some opened) ∧
    (2 ^ 33 ≤ (8589934596#48 + 1#48 - 5#48 : Time).toNat ∧ ¬ 2 ^ 33 ≤ (8589934595#48 + 1#48 - 5#48 : Time).toNat) ∧
    (quiet.port.tx = .idle ∧ quiet.clocked = true ∧ { quiet.port with replies := [frame 0x91#8 []] }.replies ≠ [] ∧
      (queued.reports.link = .up ∧ sentCount queued.reports.queue < 8 ∧ ∃ e ∈ queued.reports.queue, e.delivery ≠ .sent)) := by
  refine ⟨by decide +kernel, by decide +kernel, by decide +kernel, by decide +kernel, by decide +kernel, ?_, by decide,
    by decide +kernel⟩
  rintro _ rfl
  exact ⟨plain none (.measure (measureParams .period) { measureFresh with interval := some { openedAt := 5#48, aged := false } }),
    _, _, rfl, rfl, rfl⟩

/-- Each kind of event is enabled from the device time at which it is due on, and not a microsecond before. -/
theorem witness_EmptyQueueIdles_events :
    ((atTime 14#48 { quiet with inputs := quiet.inputs.set 15 (rising 5 10#48 5) }).enabled = [] ∧
      (atTime 15#48 { quiet with inputs := quiet.inputs.set 15 (rising 5 10#48 5) }).enabled = [.edgeAcceptance 15]) ∧
    (edge risingEdge (having (job .running countJob [0]))).enabled = [.edgeDelivery 1] ∧
    ((due .expiry 1000#48 (atTime 999#48 (having (job .running delayJob [])))).enabled = [] ∧
      (due .expiry 1000#48 (atTime 1000#48 (having (job .running delayJob [])))).enabled = [.expiry]) ∧
    ((waving .active 66000 1 65535#48).enabled = [] ∧ (waving .active 66000 1 65536#48).enabled = [.turnEnd 1]) ∧
    ((waving .active 66000 0 65999#48).enabled = [] ∧ (waving .active 66000 0 66000#48).enabled = [.activePhaseEvent 1]) ∧
    ((waving .idle 4000 0 3999#48).enabled = [] ∧ (waving .idle 4000 0 4000#48).enabled = [.periodEnd 1]) ∧
    ((echoing [] 1039#48).enabled = [] ∧ (echoing [] 1040#48).enabled = [.pulseEnd 1]) ∧
    ((atTime 199999#48 queued).enabled = [] ∧ (atTime 200000#48 queued).enabled = [.retransmitTimerExpiry]) ∧
    .lossPolicy 32 ∈
      { quiet with reports := { quiet.reports with lossDeliveries := lossDeliveriesOf .holdAll 5#48 } }.enabled ∧
    ((atTime 5081#48 (receiving .body (some { taken := [0xB5#8, 2#8], expected := 2 }))).enabled = [] ∧
      (atTime 5082#48 (receiving .body (some { taken := [0xB5#8, 2#8], expected := 2 }))).enabled = [.gapExpiry]) ∧
    ((atTime 519#48 { quiet with port := { quiet.port with tx := .sending (frame 0x91#8 []) 0#48 } }).enabled = [] ∧
      (atTime 520#48 { quiet with port := { quiet.port with tx := .sending (frame 0x91#8 []) 0#48 } }).enabled =
        [.txFrameEnd]) ∧
    resetReplySent.enabled = [.commandResetExecution 0#16] ∧
    ((given quiet 0x00#8 []).enabled = [.unknownKind] ∧ (given quiet 0x01#8 []).enabled = [.ident] ∧
      (given quiet 0x13#8 []).enabled = [.reset] ∧ (given quiet 0x14#8 []).enabled = [.unknownKind]) := by
  decide +kernel

theorem witness_StepsCompleteAndKeepQueue :
    wellFormed (.edgeDelivery 32) = true ∧ wellFormed (.edgeDelivery 33) = false := by decide

theorem witness_CommandResetExecutes_and_PortAfterEveryReset :
    resetReplySent.frameDone = some (frame 0x93#8 [0x00#8, 0x00#8]) ∧
    (frame 0x93#8 [0x00#8, 0x00#8]).isResetReply = true := by decide +kernel

theorem witness_PinAndPowerOnResets_and_PortAfterEveryReset :
    quiet.resetHold = .none ∧ { quiet with resetHold := ResetHold.pin }.resetHold ≠ .none ∧
    { quiet with resetHold := ResetHold.pin }.resetHold = .pin ∧
    { quiet with resetHold := ResetHold.powerWaiting }.resetHold = .powerWaiting ∧
    ({ quiet with resetHold := ResetHold.power }.resetHold = .power ∧ { quiet with resetHold := ResetHold.power }.resetN =
      .high) ∧
    ({ quiet with resetHold := ResetHold.power, resetN := Level.low }.resetHold = .power ∧
      { quiet with resetHold := ResetHold.power, resetN := Level.low }.resetN = .low) := by decide +kernel

theorem witness_ReferenceClockStopsAndReturns :
    clockedEvent (.changeUnderFiltering 15 .high) = true ∧ clockedEvent (.pulseEnd 32) = true ∧ clockedEvent .breakEnd = true ∧
    { quiet with refclk := false }.refclk = false := by decide +kernel

theorem witness_ReceiverActsOnByteByState :
    ((receiving .hunt none).takesCharacter 695 = true ∧ (receiving .hunt none).port.rxState = .hunt) ∧
    ((receiving .length (some { taken := [0xB5#8], expected := 0 })).takesCharacter 695 = true ∧
      (receiving .length (some { taken := [0xB5#8], expected := 0 })).port.rxFrame =
        some { taken := [0xB5#8], expected := 0 }) ∧
    (2 ≤ (2#8).toNat ∧ (200#8).toNat ≤ 200 ∧ (1#8).toNat < 2 ∧ 200 < (201#8).toNat) ∧
    ((receiving .body (some { taken := [0xB5#8, 2#8], expected := 2 })).takesCharacter 695 = true ∧
      (receiving .body (some { taken := [0xB5#8, 2#8, 1#8], expected := 1 })).takesCharacter 695 = true) ∧
    ((receiving .check (some { taken := [0xB5#8, 2#8, 1#8, 8#8], expected := 2 })).takesCharacter 695 = true ∧
      (receiving .check (some { taken := [0xB5#8, 2#8, 1#8, 8#8, 0#8], expected := 1 })).takesCharacter 695 = true) ∧
    ((receiving .closed none).takesCharacter 695 = true ∧ (receiving .closed none).port.rxState = .closed) := by decide +kernel

theorem witness_CompleteFrameIsSettled :
    (receiving .check (some { taken := timeWire.dropLast, expected := 1 })).takesCharacter 695 = true ∧
    timeWire.dropLast ++ [timeWire.getLastD 0#8] = ({ kind := 0x11#8, tag := 0x08#8, payload := [] } : Frame).wire ∧
    (receiving .check (some { taken := timeWire.dropLast, expected := 1 })).port.rxBuffer.length < 2 ∧
    [0xB5#8, 0x02#8, 0x11#8, 0x08#8, 0x00#8] = 0xB5#8 :: [0x02#8, 0x11#8, 0x08#8] ++ [0x00#8] ∧
    crc [0x02#8, 0x11#8, 0x08#8] ≠ 0x00#8 ++ 0x00#8 := by decide +kernel

theorem witness_EncodedFrameIsReceived :
    (frame 0xFF#8 (List.replicate 198 0xB5#8)).payload.length ≤ 198 ∧
    (List.replicate 203 0).length + 1 = (frame 0xFF#8 (List.replicate 198 0xB5#8)).wire.length ∧ (receiving .hunt none).takesCharacter 695 = true ∧
    (receiving .hunt none).port.rxState = .hunt ∧ (receiving .hunt none).port.rxFrame = none ∧
    (receiving .hunt none).port.gapExpiry = none ∧ (receiving .hunt none).port.rxBuffer.length < 2 := by decide +kernel

theorem witness_GapsAndBreaksAbandonFrames :
    ((receiving .body (some { taken := [0xB5#8, 2#8], expected := 2 })).clocked = true ∧
      (receiving .body (some { taken := [0xB5#8, 2#8], expected := 2 })).port.rxState = .body ∧
      (receiving .body (some { taken := [0xB5#8, 2#8], expected := 2 })).port.gapExpiry = some 5082#48 ∧
      reached 5082#48 5082#48 = true ∧ reached 5081#48 5082#48 = false) ∧
    (quiet.port.gapExpiry = none ∧ quiet.port.rxState = .hunt ∧ (receiving .closed none).port.rxState = .closed) ∧
    ((receiving .closed none).port.inBreak = false ∧ (receiving .closed none).clocked = true) ∧
    ({ quiet with port := { quiet.port with inBreak := true } }.port.inBreak = true ∧
      { quiet with port := { quiet.port with inBreak := true } }.clocked = true ∧
      { quiet with refclk := false, port := { quiet.port with inBreak := true } }.refclk = false) ∧
    ({ quiet with resetHold := .pin }.resetHold ≠ .none ∧ { quiet with resetHold := .pin }.refclk = true ∧
      { quiet with resetHold := .pin }.port.inBreak = false ∧ (after .powerOnReset quiet).resetHold ≠ .none ∧
      (after (.powerOnResetCompletion 3#2 0#16) (quiet.withPart (after .powerOnReset quiet))).resetHold = .none) ∧
    (quiet.clocked = true ∧ quiet.port.inBreak = false ∧ quiet.port.rxReadyAt = some 82#48 ∧
      reached quiet.time 82#48 = false) ∧
    ((receiving .closed none).port.rxState = .closed ∧
      resetReplySent.frameDone = some (frame 0x93#8 [0x00#8, 0x00#8]) ∧
      (frame 0x93#8 [0x00#8, 0x00#8]).isResetReply = true ∧
      plus resetReplySent.time (9500000 / resetReplySent.port.baud.rate) = 776#48) ∧
    ((receiving .hunt none).takesCharacter 695 = true ∧ (receiving .hunt none).takesCharacter 694 = false ∧
      (atTime 81#48 (receiving .hunt none)).takesCharacter 695 = false ∧ (receiving .hunt none).port.rxState ≠ .closed) := by
  decide +kernel

theorem witness_FrameEndChoosesNextFrame :
    ({ quiet with time := 520#48, port := { quiet.port with tx := .sending (frame 0x91#8 []) 0#48 } }.frameDone =
      some (frame 0x91#8 []) ∧ (frame 0x91#8 []).isResetReply = false) ∧
    ({ quiet with time := 519#48, port := { quiet.port with tx := .sending (frame 0x91#8 []) 0#48 } }.frameDone = none ∧
      quiet.frameDone = none ∧ resetReplySent.frameDone = some (frame 0x93#8 [0x00#8, 0x00#8]) ∧
      (frame 0x93#8 [0x00#8, 0x00#8]).isResetReply = true) ∧
    (queued.port.tx = .idle ∧ queued.clocked = true ∧ queued.port.replies = [] ∧ queued.reports.link = .up ∧
      sentCount queued.reports.queue < 8 ∧
      queued.reports.queue = threeReports.take 1 ++ { restartEntry .power 0#48 with seq := 41#16, delivery := .resend } ::
        threeReports.drop 2 ∧ ∀ x ∈ threeReports.take 1, x.delivery = .sent) ∧
    (State.reset.reports.queue = [] ++ restartEntry .power 0#48 :: [] ∧ (restartEntry .power 0#48).delivery = .new) ∧
    ({ queued with reports := { queued.reports with link := .lost } }.reports.link = .lost ∧
      (∀ x ∈ quiet.reports.queue, x.delivery = .sent)) ∧
    ({ queued with port := { queued.port with tx := .sending (frame 0x91#8 []) 0#48 } }.port.tx =
        .sending (frame 0x91#8 []) 0#48 ∧
      { queued with refclk := false }.clocked = false ∧ { queued with resetHold := .pin }.clocked = false) := by
  decide +kernel

/-- A frame in the buffer with an empty reply queue is taken. -/
theorem takes (s : State) (kind : Byte) (payload : List Byte) (h : s.port.replies = []) (h' : s.port.resetPending = false) :
    (given s kind payload).Takes (frame kind payload) := by
  simp [given, Part.Takes, Part.frameToTake, h, h']

theorem witness_EveryTakenFrameGetsOneReply :
    (given quiet 0x14#8 []).Takes (frame 0x14#8 []) ∧ isCommandKind 0x14#8 = false ∧
    (given quiet 0x13#8 []).Takes (frame 0x13#8 []) ∧ isCommandKind 0x13#8 = true ∧
    (∀ f, ¬ quiet.Takes f) ∧ (∀ f, ¬ (given resetReplySent 0x0B#8 [0x00#8, 0x00#8]).Takes f) ∧
    (∀ f, ¬ { given quiet 0x11#8 [] with port := { (given quiet 0x11#8 []).port with
      replies := List.replicate 4 (frame 0x91#8 []) } }.Takes f) :=
  have none_taken (s : State) (h : s.frameToTake = none) (f : Frame) : ¬ s.Takes f := fun h' => nomatch h.symm.trans h'
  ⟨takes _ _ _ rfl rfl, rfl, takes _ _ _ rfl rfl, rfl, none_taken _ (by decide +kernel), none_taken _ (by decide +kernel),
    none_taken _ (by decide +kernel)⟩

theorem witness_IdentListAndTimeAnswer :
    (given quiet 0x01#8 []).Takes (frame 0x01#8 []) ∧ (given quiet 0x0A#8 []).Takes (frame 0x0A#8 []) ∧
    (given quiet 0x11#8 []).Takes (frame 0x11#8 []) ∧ (given quiet 0x11#8 [0x00#8]).Takes (frame 0x11#8 [0x00#8]) :=
  ⟨takes _ _ _ rfl rfl, takes _ _ _ rfl rfl, takes _ _ _ rfl rfl, takes _ _ _ rfl rfl⟩

theorem witness_LinkstatAndResetAct :
    (given quiet 0x12#8 [0x01#8]).Takes (frame 0x12#8 [0x01#8]) ∧ (given quiet 0x12#8 [0x02#8]).Takes (frame 0x12#8 [0x02#8]) ∧
    (given quiet 0x13#8 []).Takes (frame 0x13#8 []) ∧ (given quiet 0x13#8 [0x00#8]).Takes (frame 0x13#8 [0x00#8]) :=
  ⟨takes _ _ _ rfl rfl, takes _ _ _ rfl rfl, takes _ _ _ rfl rfl, takes _ _ _ rfl rfl⟩

/-- A payload whose length a device command does not take. -/
theorem witness_wrong_lengths_of_device_commands (kind : Byte) :
    (given quiet kind []).Takes (frame kind []) ∧
    (∀ n ∈ [1, 2, 4], ([] : List Byte).length ≠ n) ∧
    (given quiet kind [0x00#8]).Takes (frame kind [0x00#8]) ∧ [0x00#8] ≠ [] ∧ [0x00#8].length ≠ 2 :=
  ⟨takes _ _ _ rfl rfl, by decide, takes _ _ _ rfl rfl, by decide, by decide⟩

theorem witness_LineCommandsAct :
    ((given quiet 0x0E#8 [15#8, 63#8]).Takes (frame 0x0E#8 [15#8, 63#8]) ∧ (15#8).toNat = (15 : InId).val ∧
      (63#8).toNat ≤ 63 ∧ 63 < (64#8).toNat ∧ 16 ≤ (16#8).toNat) ∧
    ((given quiet 0x0F#8 [7#8, 1#8]).Takes (frame 0x0F#8 [7#8, 1#8]) ∧ (7#8).toNat = (7 : OutId).val ∧ (1#8).toNat ≤ 1 ∧
      quiet.outputs[(7 : OutId)].owner = none ∧
      (live .running delayJob 0#16 none (some (6, .high))).outputs[(6 : OutId)].owner = some 0) ∧
    (given quiet 0x10#8 []).Takes (frame 0x10#8 []) :=
  ⟨⟨takes _ _ _ rfl rfl, rfl, by decide, by decide, by decide⟩, ⟨takes _ _ _ rfl rfl, rfl, by decide, rfl, rfl⟩,
   takes _ _ _ rfl rfl⟩

theorem witness_AckRemovesOrChangesNothing :
    ((given queued 0x0B#8 (beBytes 2 41)).Takes (frame 0x0B#8 (beBytes 2 41)) ∧
      queued.reports.queue = threeReports.take 1 ++ { restartEntry .power 0#48 with seq := 41#16, delivery := .resend } ::
        threeReports.drop 2 ∧ (∀ x ∈ threeReports.take 1, x.seq ≠ 41#16)) ∧
    ((∀ x ∈ queued.reports.queue, x.seq = 39#16 → x.delivery = .new) ∧ 1 ≤ (queued.reports.oldestSeq - 39#16).toNat ∧
      (queued.reports.oldestSeq - 65512#16).toNat = 64) ∧
    ((∀ x ∈ queued.reports.queue, x.seq = 42#16 → x.delivery = .new) ∧
      64 < (queued.reports.oldestSeq - 42#16).toNat ∧ 64 < (queued.reports.oldestSeq - 65511#16).toNat) :=
  ⟨⟨takes _ _ _ rfl rfl, by decide +kernel, by decide +kernel⟩, by decide +kernel, by decide +kernel⟩

theorem witness_ReconnectAndLinkcfgAct :
    (given queued 0x0C#8 []).Takes (frame 0x0C#8 []) ∧
    (given quiet 0x0D#8 (beBytes 2 5000 ++ [15#8, 2#8])).Takes (frame 0x0D#8 (beBytes 2 5000 ++ [15#8, 2#8])) ∧
    (given quiet 0x0D#8 (beBytes 2 5001 ++ [15#8, 2#8])).Takes (frame 0x0D#8 (beBytes 2 5001 ++ [15#8, 2#8])) ∧
    ((15#8).toNat ≤ 15 ∧ 15 < (16#8).toNat ∧ (2#8).toNat ≤ 2 ∧ 2 < (3#8).toNat) :=
  ⟨takes _ _ _ rfl rfl, takes _ _ _ rfl rfl, takes _ _ _ rfl rfl, by decide⟩

/-- One allowed definition of each kind. -/
def oneOfEachKind : List Definition := [countJob, periodJob, rateJob, delayJob, tickJob, waveJob waveFresh, echoJob echoFresh]

/-- Bytes in the ignored fields that would fail a check if they were examined. -/
def odd : Fill :=
  { armingLine := 0x77#8, armingPolarity := 0x99#8, target := 0xFE#8, idleLevel := 0x55#8, gateLevel := 0x44#8, rateEdge := 0x33#8 }

theorem witness_DefineInstallsEncodedDefinition :
    (∀ d ∈ oneOfEachKind, ∀ x, d.allowed = true ∧ (given quiet 0x02#8 (d.encode x 31)).Takes (frame 0x02#8 (d.encode x 31))) ∧
    periodJob.encode odd 31 ≠ periodJob.encode Fill.blank 31 ∧ quiet.jobs[(31 : JobId)].state = .free := by
  refine ⟨fun d hd x => ⟨?_, takes _ _ _ rfl rfl⟩, by decide +kernel, by decide +kernel⟩
  revert d; decide +kernel

/-- The nine common fields of a DEFINE of job 1 with a kind byte, immediate, with no end action and no line. -/
def common (kind : Byte) : List Byte := [0x01#8, kind, 0x00#8, 0xFF#8, 0x00#8, 0x00#8, 0x00#8, 0xFF#8, 0x00#8]

theorem witness_DefineChecksInOrder :
    (∀ payload, (given quiet 0x02#8 payload).Takes (frame 0x02#8 payload)) ∧
    ([0x01#8].length < 9 ∧ (0x21#8).toNat = 33 ∧ JobKind.ofCode (0x07#8).toNat = none) ∧
    (common 0x01#8 ++ ([3#8, 1#8, 0x10#8, 0xFF#8, 0#8] ++ beBytes 4 65536 ++ beBytes 2 1)).length = 20 ∧
    (common 0x02#8 ++ ([3#8, 4#8, 1#8] ++ beBytes 4 999 ++ beBytes 4 0 ++ beBytes 4 5 ++ [1#8, 0#8])).length = 26 ∧
    (common 0x03#8 ++ beBytes 4 0).length = 13 ∧ (common 0x04#8 ++ (beBytes 4 9 ++ beBytes 2 0)).length = 15 ∧
    (common 0x05#8 ++ (beBytes 3 10 ++ beBytes 3 10 ++ beBytes 2 0)).length = 17 ∧
    (common 0x06#8 ++ ([16#8, 3#8] ++ beBytes 3 0 ++ beBytes 2 0 ++ [4#8] ++ beBytes 2 0)).length = 19 ∧
    (commonLines 0x02#8 0x10#8 0x08#8 = [] ++ (4, true) :: [(8, true)] ∧
      commonValues 0x03#8 0#8 0#8 0#8 0xFF#8 0#8 false = [] ++ (3, true) ::
        [(5, false), (6, false), (7, false), (8, false), (9, false)]) ∧
    (∀ x ∈ commonLines 0x00#8 0xFF#8 0xFF#8, x.2 = false) ∧
    ((having (job .running tickJob [])).jobs[(0 : JobId)].state.live = true ∧
      quiet.jobs[(0 : JobId)].state.live = false) := by
  refine ⟨fun _ => takes _ _ _ rfl rfl, ?_⟩
  decide +kernel

/-- `having` with all cells held, none left. -/
def noCells (b : Job) : State := { having b with cells := Vector.replicate 24 { owner := some 9, count := 0#16, phase := none } }

/-- `having` with 64 reservations. -/
def noRoom (b : Job) : State := { having b with reports := { quiet.reports with reservations := 64 } }

/-- `having` with OUT6 owned by job 10. -/
def lineTaken (b : Job) : State := { having b with outputs := quiet.outputs.set 6 { level := .low, owner := some 9 } }

theorem witness_StartClaimsFailInOrder :
    ((given (lineTaken (job .defined delayJob [])) 0x03#8 [0x01#8]).Takes (frame 0x03#8 [0x01#8]) ∧
      (lineTaken (job .defined delayJob [])).outputs[(6 : OutId)].owner = some 9) ∧
    ((given (noCells (job .ended countJob [])) 0x03#8 [0x01#8]).Takes (frame 0x03#8 [0x01#8]) ∧
      (List.finRange 24).countP (fun c => (noCells (job .ended countJob [])).cells[c].owner.isNone) <
        countJob.work.cellsNeeded) ∧
    ((given (noRoom (job .defined countJob [])) 0x03#8 [0x01#8]).Takes (frame 0x03#8 [0x01#8]) ∧
      64 ≤ (noRoom (job .defined countJob [])).reports.queue.length + (noRoom (job .defined countJob [])).reports.reservations) :=
  ⟨⟨takes _ _ _ rfl rfl, by decide +kernel⟩, ⟨takes _ _ _ rfl rfl, by decide +kernel⟩,
   ⟨takes _ _ _ rfl rfl, by decide +kernel⟩⟩

theorem witness_StartGrantsAllClaims :
    (given (having (job .defined delayJob [])) 0x03#8 [0x01#8]).Takes (frame 0x03#8 [0x01#8]) ∧
    (having (job .defined delayJob [])).jobs[(0 : JobId)].defn = some delayJob ∧
    (∀ (u : OutputUse) (k : JobId), delayJob.output = some u →
      (having (job .defined delayJob [])).outputs[u.line].owner = some k → k = 0) ∧
    countJob.work.cellsNeeded ≤ (List.finRange 24).countP (fun c => (having (job .defined countJob [])).cells[c].owner.isNone) ∧
    (having (job .defined delayJob [])).reports.queue.length + (having (job .defined delayJob [])).reports.reservations <
      64 := by
  refine ⟨takes _ _ _ rfl rfl, by decide +kernel, ?_, by decide +kernel, by decide +kernel⟩
  intro u k hu
  obtain rfl : u = { line := 6, idle := .low } := (Option.some.inj hu).symm
  intro h
  exact absurd h (by
    rw [show (having (job .defined delayJob [])).outputs[(6 : OutId)].owner = none by decide +kernel]
    simp)

theorem witness_StopEndsOrLetsFinish :
    ((given (having (job .running countJob [0])) 0x04#8 [0x01#8, 0x01#8]).Takes (frame 0x04#8 [0x01#8, 0x01#8]) ∧
      countJob.work.kind = .count ∧ (having (job .running countJob [0])).jobs[(0 : JobId)].state.live = true) ∧
    ((given (having (job .running tickJob [])) 0x04#8 [0x01#8, 0x01#8]).Takes (frame 0x04#8 [0x01#8, 0x01#8]) ∧
      tickJob.work.kind = .tick) ∧
    ((given (having (job .stopping tickJob [])) 0x04#8 [0x01#8, 0x02#8]).Takes (frame 0x04#8 [0x01#8, 0x02#8]) ∧
      1 < (0x02#8).toNat) :=
  ⟨⟨takes _ _ _ rfl rfl, rfl, by decide +kernel⟩, ⟨takes _ _ _ rfl rfl, rfl⟩, ⟨takes _ _ _ rfl rfl, by decide⟩⟩

theorem witness_HoldKeepsAndAbandonsByKind :
    (∀ d ∈ oneOfEachKind, (given (having (job .running d [0])) 0x05#8 [0x01#8]).Takes (frame 0x05#8 [0x01#8]) ∧
      (having (job .running d [0])).jobs[(0 : JobId)].defn = some d) ∧
    (due .expiry 700#48 (live .running delayJob 0#16 none (some (6, .high)))).schedule.find?
      (fun x => decide (x.job = 0)) = some { due := 700#48, job := 0, purpose := .expiry } := by
  refine ⟨fun d hd => ⟨takes _ _ _ rfl rfl, ?_⟩, by decide +kernel⟩
  revert d; decide +kernel

theorem witness_ResumeGoesOnByKind :
    (∀ d ∈ oneOfEachKind, (given (having (job .held d [0])) 0x06#8 [0x01#8]).Takes (frame 0x06#8 [0x01#8]) ∧
      (having (job .held d [0])).jobs[(0 : JobId)].defn = some d) ∧
    { job .held (waveJob waveFresh) [0] with staged := some (.pair 10 9) }.staged = some (.pair 10 9) := by
  refine ⟨fun d hd => ⟨takes _ _ _ rfl rfl, ?_⟩, rfl⟩
  revert d; decide +kernel

theorem witness_AlterActsByKind :
    (∀ d ∈ oneOfEachKind, ∀ st ∈ [JobState.armed, .running, .held],
      (having (job st d [0])).jobs[(0 : JobId)].defn = some d ∧ (having (job st d [0])).jobs[(0 : JobId)].staged = none) ∧
    ((live .held countJob 140#16 none none).countOf 0 = 140 ∧ 140 ≤ 140 ∧ 140 < 141) ∧
    (given (having (job .running countJob [0])) 0x07#8 ([0x01#8, 0x01#8] ++ beBytes 4 65535 ++ beBytes 2 65535)).Takes
      (frame 0x07#8 ([0x01#8, 0x01#8] ++ beBytes 4 65535 ++ beBytes 2 65535)) ∧
    (given (having (job .running periodJob [0])) 0x07#8 ([0x01#8, 0x02#8] ++ beBytes 4 7 ++ beBytes 4 7 ++ beBytes 1 0)).Takes
      (frame 0x07#8 ([0x01#8, 0x02#8] ++ beBytes 4 7 ++ beBytes 4 7 ++ beBytes 1 0)) ∧
    (given (having (job .held tickJob [])) 0x07#8 ([0x01#8, 0x04#8] ++ beBytes 4 10)).Takes
      (frame 0x07#8 ([0x01#8, 0x04#8] ++ beBytes 4 10)) ∧
    (given (having (job .running (waveJob waveFresh) [0])) 0x07#8 ([0x01#8, 0x05#8] ++ beBytes 3 10 ++ beBytes 3 9)).Takes
      (frame 0x07#8 ([0x01#8, 0x05#8] ++ beBytes 3 10 ++ beBytes 3 9)) ∧
    (given (having (job .running (echoJob echoFresh) [0])) 0x07#8 ([0x01#8, 0x06#8] ++ beBytes 3 0 ++ beBytes 2 1)).Takes
      (frame 0x07#8 ([0x01#8, 0x06#8] ++ beBytes 3 0 ++ beBytes 2 1)) ∧
    (given (having (job .running delayJob [])) 0x07#8 [0x01#8, 0x03#8]).Takes (frame 0x07#8 [0x01#8, 0x03#8]) :=
  ⟨by decide +kernel, by decide +kernel, takes _ _ _ rfl rfl, takes _ _ _ rfl rfl, takes _ _ _ rfl rfl, takes _ _ _ rfl rfl,
   takes _ _ _ rfl rfl, takes _ _ _ rfl rfl⟩

/-- A MEASURE job with stall whose STALL entry stands at 600, its interval open since 99. -/
def stallJob : Definition :=
  plain none (.measure { measureParams .period with stall := true }
    { measureFresh with interval := some { openedAt := 99#48, aged := false }, stallRef := some 99#48 })

theorem witness_AlterActsByKind_stall :
    (due .stall 600#48 (having (job .running stallJob [0]))).schedule.find? (fun x => decide (x.job = 0)) =
      some { due := 600#48, job := 0, purpose := .stall } ∧
    ((some { openedAt := 99#48, aged := false } : Option OpenInterval).map (fun i => i.openedAt)).or (some 99#48) = some 99#48 ∧
    (∀ e ∈ (having (job .running periodJob [0])).schedule, e.job = 0 → e.purpose ≠ .stall) := by decide +kernel

theorem witness_ReadAnswersSnapshot :
    (∀ d ∈ oneOfEachKind, ∀ st ∈ [JobState.defined, .armed, .running, .held, .stopping, .ended],
      (having (job st d [])).jobs[(0 : JobId)].state ≠ .free ∧ (having (job st d [])).jobs[(0 : JobId)].defn = some d ∧
      (having (job st d [])).jobs[(0 : JobId)].staged = none) ∧
    (given (having (job .running delayJob [])) 0x08#8 [0x01#8]).Takes (frame 0x08#8 [0x01#8]) ∧
    ((due .tick 1000#48 (having (job .stopping tickJob []))).schedule.find? (fun x => decide (x.job = 0)) =
        some { due := 1000#48, job := 0, purpose := .tick } ∧
      (due .stall 600#48 (having (job .running stallJob [0]))).schedule.find? (fun x => decide (x.job = 0)) =
        some { due := 600#48, job := 0, purpose := .stall }) ∧
    (reached 599#48 600#48 = false ∧ reached 600#48 600#48 = true ∧ reached 601#48 600#48 = true) ∧
    (∃ d m g, (having (job .running (plain none (.measure (measureParams (.rate .rising 1000))
        { measureFresh with windowStart := some 0#48 })) [0])).jobs[(0 : JobId)].defn = some d ∧ d.work = .measure m g ∧
      m.mode = .rate .rising 1000 ∧ g.windowStart = some 0#48) ∧
    (∃ d x g u, (echoing [] 1040#48).jobs[(0 : JobId)].defn = some d ∧ d.work = .echo x g ∧ g.pulse = some u ∧
      u.endTime = (echoing [] 1040#48).time) ∧
    ((waving .active 66000 1 5#48).jobs[(0 : JobId)].cells.head? = some 0 ∧
      (waving .active 66000 1 5#48).cells[(0 : CellId)].phase = some { start := 0#48, length := 66000 }) ∧
    { job .running (waveJob waveFresh) [0] with staged := some (.pair 10 9) }.staged = some (.pair 10 9) ∧
    { job .held tickJob [] with staged := some (.period 10) }.staged = some (.period 10) :=
  ⟨by decide +kernel, takes _ _ _ rfl rfl, by decide +kernel, by decide +kernel, ⟨_, _, _, rfl, rfl, rfl, rfl⟩,
    ⟨_, _, _, _, rfl, rfl, rfl, rfl⟩, by decide +kernel, rfl, rfl⟩

theorem witness_DeleteFreesJob :
    (given (having (job .ended delayJob [])) 0x09#8 [0x01#8]).Takes (frame 0x09#8 [0x01#8]) ∧
    (having (job .ended delayJob [])).jobs[(0 : JobId)].state = .ended := ⟨takes _ _ _ rfl rfl, by decide +kernel⟩

theorem witness_JobCommandsRefusedByState :
    (∀ r ∈ oneByteRows, (given quiet r.2 [0x20#8]).Takes (frame r.2 [0x20#8]) ∧
      (given quiet r.2 [0x21#8]).Takes (frame r.2 [0x21#8]) ∧ (given quiet r.2 []).Takes (frame r.2 []) ∧
      wrongState r.1 quiet.jobs[(31 : JobId)].state) ∧
    (given quiet 0x04#8 [0x20#8, 0x00#8]).Takes (frame 0x04#8 [0x20#8, 0x00#8]) ∧
    (∀ r ∈ alterLengths, (given quiet 0x07#8 ([0x20#8, r.1] ++ List.replicate r.2 0x00#8)).Takes
        (frame 0x07#8 ([0x20#8, r.1] ++ List.replicate r.2 0x00#8)) ∧ (List.replicate r.2 0x00#8).length = r.2 ∧
      (given quiet 0x07#8 [0x20#8, r.1]).Takes (frame 0x07#8 [0x20#8, r.1]) ∧ ([] : List Byte).length ≠ r.2) ∧
    (given quiet 0x07#8 [0x20#8, 0x03#8]).Takes (frame 0x07#8 [0x20#8, 0x03#8]) ∧
    ((0x20#8).toNat = (31 : JobId).val + 1 ∧ 32 < (0x21#8).toNat) := by
  refine ⟨fun r hr => ⟨takes _ _ _ rfl rfl, takes _ _ _ rfl rfl, takes _ _ _ rfl rfl, ?_⟩, takes _ _ _ rfl rfl,
    fun r hr => ⟨takes _ _ _ rfl rfl, by simp, takes _ _ _ rfl rfl, ?_⟩, takes _ _ _ rfl rfl, by decide⟩
  rotate_left
  · revert r; decide
  have hs : quiet.jobs[(31 : JobId)].state = .free := by decide +kernel
  rw [hs]
  simp only [oneByteRows, List.mem_cons, List.not_mem_nil, or_false] at hr
  rcases hr with rfl | rfl | rfl | rfl | rfl <;> simp [wrongState]

theorem witness_EndingRunsItsSteps_and_EndingValuesByKind :
    ∀ d ∈ oneOfEachKind, ∀ st ∈ [JobState.armed, .running, .held, .stopping],
      (live st d 7#16 none (d.output.map (fun u => (u.line, .high)))).jobs[(0 : JobId)].defn = some d ∧
      (live st d 7#16 none (d.output.map (fun u => (u.line, .high)))).jobs[(0 : JobId)].state = st := by decide +kernel

/-- Job 1 with an end action on job 2, whose record is given. -/
def linked (action : EndAction) (target : Job) : State :=
  let s := having (job .running { tickJob with endAction := some action } [])
  { s with jobs := s.jobs.set 1 target }

theorem witness_LinksActOnTargets :
    (linked (.start 1) (job .ended countJob [])).jobs[(0 : JobId)].defn = some { tickJob with endAction := some (.start 1) } ∧
    (∀ st ∈ [JobState.defined, .armed, .running, .held, .stopping, .ended],
      ((linked (.start 1) (job st countJob [])).toPart.endSteps 0 .hostStop 5#48 0).jobs[(1 : JobId)].state = st) ∧
    ((linked (.start 1) Job.free).toPart.endSteps 0 .hostStop 5#48 0).jobs[(1 : JobId)].state = .free ∧
    ((linked (.stop 0) Job.free).toPart.endSteps 0 .hostStop 5#48 0).jobs[(0 : JobId)].state = .ended ∧
    EndCause.hostStop ≠ .linkLost := by decide +kernel

/-- The part after job 1 of `linked` has ended, its target being job 2. -/
def ended (s : State) : Part := s.toPart.endSteps 0 .hostStop 5#48 0

theorem witness_LinksActOnTargets_claims :
    (∃ s : State, s = { linked (.start 1) (job .defined delayJob []) with
      outputs := quiet.outputs.set 6 { level := .low, owner := some 9 } } ∧
      (ended s).outputs[(6 : OutId)].owner = some 9) ∧
    (∃ s : State, s = { linked (.start 1) (job .ended countJob []) with
      cells := Vector.replicate 24 { owner := some 9, count := 0#16, phase := none } } ∧
      (ended s).freeCells.length < countJob.work.cellsNeeded) ∧
    (∃ s : State, s = { linked (.start 1) (job .ended countJob []) with
      reports := { quiet.reports with reservations := 64 } } ∧ countJob.work.cellsNeeded ≤ (ended s).freeCells.length ∧
      64 ≤ (ended s).reports.queue.length + (ended s).reports.reservations) ∧
    (ended (linked (.start 1) (job .ended countJob []))).reports.queue.length +
      (ended (linked (.start 1) (job .ended countJob []))).reports.reservations < 64 :=
  ⟨⟨_, rfl, by decide +kernel⟩, ⟨_, rfl, by decide +kernel⟩, ⟨_, rfl, by decide +kernel, by decide +kernel⟩,
   by decide +kernel⟩

theorem witness_StopLinksCascade :
    (linked (.stop 1) (job .running tickJob [])).jobs[(0 : JobId)].defn = some { tickJob with endAction := some (.stop 1) } ∧
    ((linked (.stop 1) (job .running tickJob [])).toPart.endSteps 0 .hostStop 5#48 0).jobs[(1 : JobId)].state.live = true := by
  decide +kernel

/-- The NEW TICK report of job 1, merged as often as is counted. -/
def tickReport : ReportEntry :=
  { seq := 43#16, job := some 0, run := 1#8, time := 1000#48, lost := 0, content := .tick 1#32 255, delivery := .new,
    thisStart := true }

theorem witness_ReportOffers :
    quiet.reports.queue.length + quiet.reports.reservations < 64 ∧
    64 ≤ (noRoom Job.free).reports.queue.length + (noRoom Job.free).reports.reservations ∧
    threeReports ++ [tickReport] = threeReports ++ tickReport :: [] ∧
    (∀ x ∈ threeReports ++ [], x.job ≠ some 0) ∧ (∀ x ∈ threeReports, x.job ≠ some 0) ∧
    (tickReport.job = some 0 ∧ tickReport.delivery = .new ∧ tickReport.thisStart = true ∧ tickReport.content = .tick 1#32 255) := by
  decide +kernel

theorem witness_SchedulePlacement :
    (∀ x ∈ (due .tick 0x000000000005#48 quiet).schedule, (x.due - 0xFFFFFFFFFFF0#48).toNat < 2 ^ 47) ∧
    (0x000000000001#48 - 0xFFFFFFFFFFF0#48 : Time).toNat < 2 ^ 47 ∧
    (due .tick 0x000000000005#48 quiet).schedule.Pairwise
      (fun a b => (a.due - 0xFFFFFFFFFFF0#48).toNat ≤ (b.due - 0xFFFFFFFFFFF0#48).toNat) := by decide +kernel

theorem witness_SampleFiltering :
    quiet.clocked = true ∧ quiet.inputs[(3 : InId)].change = none ∧ quiet.inputs[(3 : InId)].filter ≠ 0 ∧
    Level.high ≠ quiet.inputs[(3 : InId)].filtered ∧
    (rising 2 10000#48 2).change = some { level := .high, firstSeen := 10000#48, filterTime := 2 } ∧
    reached 10002#48 (plus 10000#48 2) = true ∧ reached 10001#48 (plus 10000#48 2) = false ∧
    { rising 0 10000#48 2 with change := none }.filter = 0 := by decide +kernel

/-- A job that waits for the edge of section 2.5. -/
def armedJob : Definition := { tickJob with startMode := .onEdge 3 .rising }

theorem takesEdge (st : JobState) (d : Definition) (e : Edge) :
    (edge e (live st d 0#16 none none)).TakesEdge 0 d e st (live st d 0#16 none none).toPart :=
  ⟨[], [], rfl, by simp, rfl, rfl⟩

theorem witness_EdgeArmsOrPassesBy :
    ((edge risingEdge (live .armed armedJob 0#16 none none)).TakesEdge 0 armedJob risingEdge .armed
      (live .armed armedJob 0#16 none none).toPart ∧ armedJob.startMode = .onEdge risingEdge.line risingEdge.polarity) ∧
    ((edge risingEdge (live .armed tickJob 0#16 none none)).TakesEdge 0 tickJob risingEdge .armed
      (live .armed tickJob 0#16 none none).toPart ∧ tickJob.startMode ≠ .onEdge risingEdge.line risingEdge.polarity) ∧
    (edge risingEdge (live .held countJob 0#16 none none)).TakesEdge 0 countJob risingEdge .held
      (live .held countJob 0#16 none none).toPart ∧
    (edge risingEdge (live .running tickJob 0#16 none none)).TakesEdge 0 tickJob risingEdge .running
      (live .running tickJob 0#16 none none).toPart ∧
    (∀ x ∈ quiet.deliveries, x.job ≠ 0) :=
  ⟨⟨takesEdge _ _ _, rfl⟩, ⟨takesEdge _ _ _, by decide⟩, takesEdge _ _ _, takesEdge _ _ _, by simp [quiet, State.reset, Part.reset]⟩

theorem witness_EntryIntoRunningByKind :
    ∀ d ∈ oneOfEachKind, (live .armed d 0#16 none (d.output.map (fun u => (u.line, u.idle)))).jobs[(0 : JobId)].defn = some d ∧
      (∀ u ∈ d.output, (live .armed d 0#16 none (d.output.map (fun u => (u.line, u.idle)))).outputs[u.line].owner = some 0) := by
  decide +kernel

/-- A COUNT job on two cells, with a gate on IN4 that is open at HIGH. -/
def gatedJob : Definition :=
  plain none (.count { countParams with width := .w32, gate := some { line := 4, level := .high }, limit := 0 } countFresh)

theorem witness_CountJobCountsEdge :
    countParams.source = risingEdge.line ∧
    (∃ p, (edge risingEdge (live .running countJob 65535#16 none none)).TakesEdge 0 countJob risingEdge .running p) ∧
    (∃ p, { edge risingEdge (live .running countJob 0#16 none none) with
      deliveries := [{ job := 0, edge := risingEdge, acceptedIn := .held }] }.TakesEdge 0 countJob risingEdge .held p) ∧
    (edge risingEdge (live .running countJob 65535#16 none none)).countOf 0 = 65535 ∧
    (edge risingEdge (live .running countJob 1#16 none none)).countOf 0 ≠ 65535 ∧
    (having (job .running gatedJob [0, 1])).jobs[(0 : JobId)].cells.length = 2 ∧
    (having (job .running gatedJob [0, 1])).jobs[(0 : JobId)].cells.Nodup ∧
    (having (job .running gatedJob [0, 1])).inputs[(4 : InId)].filtered ≠ .high :=
  ⟨rfl, ⟨_, [], [], rfl, by simp, rfl, rfl⟩, ⟨_, [], [], rfl, by simp, rfl, rfl⟩, by decide +kernel, by decide +kernel, by decide +kernel, by decide +kernel,
   by decide +kernel⟩

/-- The interval of a MEASURE job open since 9,510, and the sample that the edge of section 2.5 then forms: its high limit. -/
def openJob (mode : MeasureMode) : Definition :=
  plain none (.measure (measureParams mode) { measureFresh with interval := some { openedAt := 9510#48, aged := false } })

theorem witness_MeasureJobTakesEdge :
    (∀ d, ∃ p, (edge risingEdge (live .running d 0#16 none none)).TakesEdge 0 d risingEdge .running p) ∧
    (measureParams .period).source = risingEdge.line ∧
    min 4294967295 (risingEdge.edgeTime - 9510#48).toNat = (measureParams .period).highLimit ∧
    (openJob .low).work = .measure (measureParams .low)
      { measureFresh with interval := some { openedAt := 9510#48, aged := false } } ∧
    (live .running rateJob 0xFFFF#16 none none).cells[(0 : CellId)].count = 0xFFFF#16 ∧
    (live .running rateJob 0#16 none none).jobs[(0 : JobId)].cells = [0] :=
  ⟨fun _ => ⟨_, takesEdge _ _ _⟩, rfl, by decide +kernel, rfl, by decide +kernel, by decide +kernel⟩

/-- Eight entries wait. -/
def eight : List PendingPulse := List.replicate 8 { due := 20000#48, width := 40 }

theorem witness_EchoJobTakesEdge :
    (∀ g, ∃ p, (edge risingEdge (live .running (echoJob g) 0#16 none none)).TakesEdge 0 (echoJob g) risingEdge .running p) ∧
    echoParams.source = risingEdge.line ∧ risingEdge.polarity = echoParams.edge ∧ echoParams.overlap = .queue ∧
    eight.tail.length < 8 ∧ 8 ≤ eight.length ∧
    (∀ (init : List PendingPulse) (last : PendingPulse), ([] : List PendingPulse) = init ++ [last] →
      (none : Option Time) = some (plus last.due last.width)) :=
  ⟨fun _ => ⟨_, takesEdge _ _ _⟩, rfl, rfl, rfl, by decide, by decide, by simp⟩

/-- The entry of job 1 falls due at its due time. -/
theorem fallsDue (st : JobState) (d : Definition) (purpose : Purpose) (line : Option (OutId × Level)) :
    (due purpose 1000#48 (atTime 1000#48 (live st d 0#16 none line))).FallsDue { due := 1000#48, job := 0, purpose := purpose } d
      { (atTime 1000#48 (live st d 0#16 none line)).toPart with schedule := [] } := by
  rcases line with _ | ⟨o, l⟩ <;> exact ⟨rfl, (by decide +kernel : reached 1000#48 1000#48 = true), rfl, [], rfl, rfl⟩

theorem witness_DeadlinesEndDelayAndStall :
    (∃ p, (due .expiry 1000#48 (atTime 1000#48 (live .running delayJob 0#16 none none))).FallsDue
      { due := 1000#48, job := 0, purpose := .expiry } delayJob p) ∧
    (∃ p, (due .stall 1000#48 (atTime 1000#48 (live .running stallJob 0#16 none none))).FallsDue
      { due := 1000#48, job := 0, purpose := .stall } stallJob p) ∧
    (quiet.schedule = [] ∧ reached 999#48 1000#48 = false) :=
  ⟨⟨_, fallsDue _ _ _ _⟩, ⟨_, fallsDue _ _ _ _⟩, by decide +kernel⟩

theorem witness_TickIsDelivered :
    (∀ st, ∃ p, (due .tick 1000#48 (atTime 1000#48 (live st tickJob 0#16 none none))).FallsDue
      { due := 1000#48, job := 0, purpose := .tick } tickJob p) ∧
    tickJob.work = .tick { period := 1000, limit := 5 } { ticksDone := 0#32, remaining := 1000 } ∧
    (4#32 + 1#32).toNat = 5 ∧ (0#32 + 1#32).toNat ≠ 5 := ⟨fun _ => ⟨_, fallsDue _ _ _ _⟩, rfl, by decide, by decide⟩

theorem witness_WindowEndFormsSample :
    (∃ p, (due .window 1000#48 (atTime 1000#48 (live .running rateJob 0#16 none none))).FallsDue
      { due := 1000#48, job := 0, purpose := .window } rateJob p) ∧
    (live .running rateJob 0#16 none none).jobs[(0 : JobId)].cells = [0] ∧
    (live .running rateJob 501#16 none none).cells[(0 : CellId)].count.toNat = (measureParams .low).highLimit + 1 ∧
    rateJob.work = .measure (measureParams (.rate .rising 1000)) measureFresh :=
  ⟨⟨_, fallsDue _ _ _ _⟩, by decide +kernel, by decide +kernel, rfl⟩

theorem witness_EchoDueBeginsPulse :
    (∀ st g, ∃ p, (due .echoDue 1000#48 (atTime 1000#48 (live st (echoJob g) 0#16 none (some (5, .low))))).FallsDue
      { due := 1000#48, job := 0, purpose := .echoDue } (echoJob g) p) ∧
    eight = { due := 20000#48, width := 40 } :: eight.tail ∧ echoFresh.pulse = none ∧
    { echoFresh with pulse := some { beginTime := 960#48, endTime := 1000#48 } }.pulse ≠ none ∧
    ({ echoParams with limit := 1 }.limit ≠ 0 ∧ (0#32 + 1#32).toNat = 1) :=
  ⟨fun _ _ => ⟨_, fallsDue _ _ _ _⟩, by decide, rfl, by decide, by decide⟩

theorem witness_WaveCellEvents :
    (waving .active 66000 0 66000#48).Times 0
      (waveJob { waveFresh with phase := some .active, periodStart := some 0#48 }) { start := 0#48, length := 66000 } ∧
    (waving .active 66000 1 65536#48).Times 0
      (waveJob { waveFresh with phase := some .active, periodStart := some 0#48, turnsLeft := 1 })
      { start := 0#48, length := 66000 } ∧
    (waving .idle 4000 0 4000#48).Times 0
      (waveJob { waveFresh with phase := some .idle, periodStart := some 0#48 }) { start := 0#48, length := 4000 } ∧
    (reached 66000#48 (plus 0#48 66000) = true ∧ reached 65999#48 (plus 0#48 66000) = false ∧
      reached 65536#48 (plus 0#48 (65536 * (66000 / 65536 - 1 + 1))) = true ∧
      reached 65535#48 (plus 0#48 (65536 * (66000 / 65536 - 1 + 1))) = false) ∧
    (some WavePhase.active ≠ some .idle ∧ some WavePhase.idle ≠ some .active) ∧
    (∀ d ph v g, (echoing [] 1040#48).Times 0 d ph → d.work ≠ .wave v g) :=
  ⟨⟨rfl, .inl rfl, rfl, 0, [], rfl, rfl⟩, ⟨rfl, .inl rfl, rfl, 0, [], rfl, rfl⟩, ⟨rfl, .inl rfl, rfl, 0, [], rfl, rfl⟩,
   by decide +kernel, by decide, fun _ _ _ _ h => by cases h.2.2.1; nofun⟩

theorem witness_PulseEndsByOrder (pendingList : List PendingPulse) :
    (echoing pendingList 1040#48).Times 0
      (echoJob { echoFresh with pendingList := pendingList, pulse := some { beginTime := 1000#48, endTime := 1040#48 } })
      { start := 1000#48, length := 40 } ∧
    (reached 1040#48 (plus 1000#48 40) = true ∧ reached 1039#48 (plus 1000#48 40) = false) ∧
    (∀ d ph x g, (live .running (echoJob echoFresh) 0#16 none (some (5, .low))).Times 0 d ph → d.work = .echo x g →
      g.pulse = none) :=
  ⟨⟨rfl, .inl rfl, rfl, 0, [], rfl, rfl⟩, by decide +kernel, fun _ _ _ _ h hw => by cases h.2.2.1; cases hw; rfl⟩

theorem witness_RetransmitTimerExpires :
    quiet.reports.timer = none ∧ queued.clocked = true ∧ queued.reports.timer = some 200000#48 ∧ reached 200000#48 200000#48 = true ∧
    reached 199999#48 200000#48 = false ∧ queued.reports.retry + 1 ≤ queued.reports.retryLimit ∧
    { queued with reports := { queued.reports with retry := 4 } }.reports.retryLimit < 4 + 1 := by decide +kernel

theorem witness_LossPolicyActsByState :
    (∀ st ∈ [JobState.armed, .running, .held, .stopping, .ended], (having (job st tickJob [])).jobs[(0 : JobId)].state = st) ∧
    lossDeliveriesOf .holdAll 5#48 = [] ++ { job := 0, policy := .holdAll, lostAt := 5#48 } :: (lossDeliveriesOf .holdAll
      5#48).tail ∧
    (∀ x ∈ quiet.reports.lossDeliveries, x.job ≠ 0) := by decide +kernel

/-- A WAVE job in its first period, with its reservation, is a sound state. -/
def working : State :=
  { waving .active 66000 1 0#48 with reports := { quiet.reports with reservations := 1 } }

theorem witness_StepKeepsEachLaw : working.toPart.Sound ∧ working.TimeLaw := by
  refine ⟨⟨by decide +kernel, by decide +kernel, by decide +kernel, ⟨by decide +kernel, fun o j hj => ?_⟩, by decide +kernel,
    by decide +kernel, by decide +kernel⟩, by decide +kernel⟩
  exact absurd hj ((by decide +kernel :
    ∀ j : JobId, ¬(working.jobs[j].state = .armed ∨ working.jobs[j].state = .held)) j)

/-- An ECHO job within its first pulse, with two entries pending: one due as the pulse ends, one as the next pulse ends. -/
def pulsing : State :=
  { due .echoDue 1040#48 (echoing [{ due := 1040#48, width := 40 }, { due := 1080#48, width := 40 }] 1010#48) with
    reports := { quiet.reports with reservations := 1 } }

theorem witness_StepKeepsScheduleLaw : pulsing.toPart.Sound ∧ pulsing.TimeLaw := by
  refine ⟨⟨by decide +kernel, by decide +kernel, by decide +kernel, ⟨by decide +kernel, fun o j hj => ?_⟩, by decide +kernel,
    by decide +kernel, by decide +kernel⟩, by decide +kernel⟩
  exact absurd hj ((by decide +kernel :
    ∀ j : JobId, ¬(pulsing.jobs[j].state = .armed ∨ pulsing.jobs[j].state = .held)) j)

end Sys2Proof.Tests
end

section
/-! SUPPORT. R114: the delivery of an ECHO_DUE entry. -/

namespace Sys2Proof.Machine

open Sys2Proof

/-! ### The entry that falls due (R83) -/

/-- The row of the entry's purpose takes the entry off the schedule and hands it to its job. -/
theorem Part.deliverDue_of_fallsDue {s : State} {e : DeadlineEntry} {d : Definition} {p : Part} (h : s.FallsDue e d p)
    (act : Part → JobId → Time → Part) : s.toPart.deliverDue e.purpose act = (act p e.job e.due).arbitrate := by
  obtain ⟨hclock, hreached, -, rest, hsched, rfl⟩ := h
  have hdue : s.toPart.dueFor e.purpose = some e := by
    simp [Part.dueFor, Part.dueEntry, hsched, hclock, hreached]
  simp [Part.deliverDue, hdue, Part.popEntry, hsched]

/-- Taking the entry off the schedule leaves the jobs as they were. -/
theorem State.FallsDue.jobs_eq {s : State} {e : DeadlineEntry} {d : Definition} {p : Part} (h : s.FallsDue e d p) :
    p.jobs = s.jobs := by
  obtain ⟨-, -, -, rest, -, rfl⟩ := h
  rfl

theorem State.FallsDue.workOf_eq {s : State} {e : DeadlineEntry} {d : Definition} {p : Part} (h : s.FallsDue e d p) :
    p.workOf e.job = some d.work := by
  obtain ⟨-, -, hdefn, rest, -, rfl⟩ := h
  exact Part.workOf_some hdefn

/-! ### The pulse (R114) -/

/-- A pulse begins with the head of a list that is not empty. -/
theorem Part.beginPulse_cons (p : Part) (j : JobId) (x : EchoParams) {g : EchoProgress} {head : PendingPulse}
    {rest : List PendingPulse} (h : g.pendingList = head :: rest) (t : Time) :
    p.beginPulse j x g t = p.withPulse j x g head rest t := by
  cases rest <;> simp only [Part.beginPulse, Part.withPulse, h]

theorem EchoProgress.atLimit_iff (g : EchoProgress) (x : EchoParams) :
    g.atLimit x = true ↔ x.limit ≠ 0 ∧ g.pulses.toNat = x.limit := by
  simp [EchoProgress.atLimit]

/-- With no pulse in progress the head's pulse begins. -/
theorem Part.echoDueAt_of_no_pulse (p : Part) (j : JobId) (x : EchoParams) {g : EchoProgress} (h : g.pulse = none)
    (due : Time) : p.echoDueAt j x g due = p.beginPulse j x g due := by
  simp only [Part.echoDueAt, h]

/-- A pulse in progress is counted first; at the limit it ends the job, and otherwise the head's pulse begins. -/
theorem Part.echoDueAt_of_pulse (p : Part) (j : JobId) (x : EchoParams) {g : EchoProgress} (h : g.pulse ≠ none)
    (due : Time) :
    p.echoDueAt j x g due =
      if g.counted.atLimit x then (p.setWork j (.echo x g.counted)).endJob j (limitCause p.jobs[j].state) due 0
      else p.beginPulse j x g.counted due := by
  obtain ⟨u, hu⟩ := Option.ne_none_iff_exists'.mp h
  simp only [Part.echoDueAt, hu]

/-- RUNNING and STOPPING ECHO jobs take the entry alike. -/
theorem Part.takeEchoDue_of_working {p : Part} {j : JobId} {x : EchoParams} {g : EchoProgress}
    (hstate : p.jobs[j].state = .running ∨ p.jobs[j].state = .stopping) (hwork : p.workOf j = some (.echo x g))
    (due : Time) : p.takeEchoDue j due = p.echoDueAt j x g due := by
  rcases hstate with hrun | hstop
  · simp only [Part.takeEchoDue, hrun, hwork]
  · simp only [Part.takeEchoDue, hstop, hwork]

/-- The ECHO_DUE step at a RUNNING or STOPPING ECHO job. -/
theorem exec_echoDue_of_fallsDue {s : State} {e : DeadlineEntry} {d : Definition} {p : Part} {x : EchoParams}
    {g : EchoProgress} (h : s.FallsDue e d p) (hpurpose : e.purpose = .echoDue)
    (hstate : s.jobs[e.job].state = .running ∨ s.jobs[e.job].state = .stopping) (hwork : d.work = .echo x g) :
    exec .echoDue s = .next (s.withPart (p.echoDueAt e.job x g e.due).arbitrate) := by
  have htake : p.takeEchoDue e.job e.due = p.echoDueAt e.job x g e.due :=
    Part.takeEchoDue_of_working (by rwa [h.jobs_eq]) (hwork ▸ h.workOf_eq) e.due
  calc exec .echoDue s
      = .next (s.withPart (s.toPart.deliverDue .echoDue Part.takeEchoDue)) := rfl
    _ = .next (s.withPart (p.echoDueAt e.job x g e.due).arbitrate) := by
        rw [← hpurpose, Part.deliverDue_of_fallsDue h, htake]

/-- Settles O48, by whether a pulse is in progress and whether it reaches the limit. -/
theorem echoDueBeginsPulse : Obligations.EchoDueBeginsPulse := by
  unfold Obligations.EchoDueBeginsPulse
  rintro s e d p x g _ head rest h hpurpose hstate hwork hlist rfl
  rw [exec_echoDue_of_fallsDue h hpurpose hstate hwork]
  have hcounted : g.counted.pendingList = head :: rest := hlist
  refine ⟨fun hnone => ?noPulse, fun hpulse hlimit hat => ?atLimit, fun hpulse hbelow => ?belowLimit⟩
  case noPulse => rw [Part.echoDueAt_of_no_pulse _ _ _ hnone, Part.beginPulse_cons _ _ _ hlist]
  case atLimit =>
    have hlast : g.counted.atLimit x = true := (EchoProgress.atLimit_iff _ _).mpr ⟨hlimit, hat⟩
    rw [Part.echoDueAt_of_pulse _ _ _ hpulse, if_pos hlast, limitCause, h.jobs_eq]
    rfl
  case belowLimit =>
    have hmore : ¬ g.counted.atLimit x = true := fun hlast =>
      have ⟨hlimit, hat⟩ := (EchoProgress.atLimit_iff _ _).mp hlast
      hbelow.elim hlimit (· hat)
    rw [Part.echoDueAt_of_pulse _ _ _ hpulse, if_neg hmore, Part.beginPulse_cons _ _ _ hcounted]
    rfl

end Sys2Proof.Machine
end

section
/-! SUPPORT. R152, R153 and R175: the layout of frames and reports. -/

namespace Sys2Proof.Machine

open Sys2Proof

/-! ### Big-endian fields (R165) -/

@[simp] theorem beBytes_length (width v : Nat) : (beBytes width v).length = width := by
  induction width with
  | zero => rfl
  | succ w ih => simp [beBytes, ih]

/-- Byte `i` of a field is the digit of weight 256^(width − 1 − i). -/
theorem beBytes_getElem? (width v i : Nat) (h : i < width) :
    (beBytes width v)[i]? = some (BitVec.ofNat 8 (v / 256 ^ (width - 1 - i))) := by
  induction width generalizing i with
  | zero => exact absurd h (Nat.not_lt_zero i)
  | succ w ih =>
    cases i with
    | zero => rfl
    | succ i =>
      have hexp : w + 1 - 1 - (i + 1) = w - 1 - i := by omega
      rw [beBytes, List.getElem?_cons_succ, ih i (Nat.lt_of_succ_lt_succ h), hexp]

@[simp] theorem beBytes_one (v : Nat) : beBytes 1 v = [BitVec.ofNat 8 v] := by
  simp [beBytes]

theorem beBytes_one_toNat (b : Byte) : beBytes 1 b.toNat = [b] := by
  simp

/-- The word that a high and a low byte spell. -/
theorem byte_append_byte (high low : Byte) : high ++ low = BitVec.ofNat 16 (high.toNat * 256 + low.toNat) := by
  apply BitVec.eq_of_toNat_eq
  rw [BitVec.toNat_append, ← Nat.shiftLeft_add_eq_or_of_lt low.isLt, BitVec.toNat_ofNat, Nat.shiftLeft_eq]
  have := high.isLt
  have := low.isLt
  omega

/-- A 16-bit word is sent as its high byte and then its low byte. -/
theorem beBytes_two_toNat (v : BitVec 16) : ∃ high low : Byte, beBytes 2 v.toNat = [high, low] ∧ high ++ low = v := by
  refine ⟨BitVec.ofNat 8 (v.toNat / 256), BitVec.ofNat 8 v.toNat, by simp [beBytes], ?_⟩
  rw [byte_append_byte]
  apply BitVec.eq_of_toNat_eq
  simp only [BitVec.toNat_ofNat]
  have := v.isLt
  omega

/-! ### The frame on the line (R152, R153) -/

/-- The example of R153: the CRC of the digits 1 to 9 in ASCII. -/
theorem crc_digits :
    crc [0x31#8, 0x32#8, 0x33#8, 0x34#8, 0x35#8, 0x36#8, 0x37#8, 0x38#8, 0x39#8] = 0x29B1#16 := by decide +kernel

/-- The bytes on the line: sync, the covered bytes, and their CRC, high byte first. -/
theorem Frame.wire_eq (f : Frame) : ∃ high low : Byte,
    f.wire = syncByte :: f.covered ++ [high, low] ∧ high ++ low = crc f.covered := by
  obtain ⟨high, low, hbytes, hword⟩ := beBytes_two_toNat (crc f.covered)
  exact ⟨high, low, by rw [Frame.wire, hbytes], hword⟩

@[simp] theorem Frame.covered_length (f : Frame) : f.covered.length = f.payload.length + 3 := rfl

@[simp] theorem Frame.wire_length (f : Frame) : f.wire.length = f.payload.length + 6 := by
  simp [Frame.wire]

/-! ### The frame of a report (R175) -/

/-- The header of a report: sequence, job, run, time and lost. -/
def ReportEntry.header (e : ReportEntry) : List Byte :=
  beBytes 2 e.seq.toNat ++ beBytes 1 (ownerNumber e.job) ++ beBytes 1 e.run.toNat ++ timeBytes e.time ++ beBytes 1 e.lost

theorem ReportEntry.frame_eq (e : ReportEntry) :
    e.frame = { kind := e.content.kindCode, tag := 0x00#8, payload := e.header ++ e.content.bytes } := rfl

@[simp] theorem ReportEntry.header_length (e : ReportEntry) : e.header.length = 11 := by
  simp [ReportEntry.header, timeBytes]

@[simp] theorem ReportEntry.frame_payload_length (e : ReportEntry) :
    e.frame.payload.length = 11 + e.content.bytes.length := by
  simp [ReportEntry.frame_eq]

/-- How many content bytes a report of each kind has. -/
def ReportContent.size : ReportContent → Nat
  | .restart _ _ => 2
  | .progress _ => 4
  | .sample _ _ => 8
  | .tick _ _ => 5
  | .ended _ _ _ _ => 11

@[simp] theorem ReportContent.bytes_length (c : ReportContent) : c.bytes.length = c.size := by
  cases c <;> simp [ReportContent.bytes, ReportContent.size]

/-- Kind, payload length and content bytes of a report go by its content alone. -/
theorem ReportEntry.frame_of_content {e : ReportEntry} {c : ReportContent} (h : e.content = c) :
    e.content.kindCode = c.kindCode ∧ e.frame.payload.length = 11 + c.size ∧ e.content.bytes = c.bytes := by
  subst h
  simp

/-- Settles O14: the frame's layout from `Frame.wire_eq`, a report's from `ReportEntry.frame_eq` and its content. -/
theorem frameLayoutAndCrc : Obligations.FrameLayoutAndCrc := by
  unfold Obligations.FrameLayoutAndCrc
  refine ⟨fun f _ => ?wire, crc_digits, fun cause t => ?restart, beBytes_getElem?, beBytes_length, fun e =>
    ⟨e.content.kindCode, e.header, e.content.bytes, e.frame_eq, ?header, e.header_length,
      fun cause revision h => ?restartContent, fun count h => ReportEntry.frame_of_content h,
      fun value accepted h => ReportEntry.frame_of_content h, fun number merged h => ReportEntry.frame_of_content h,
      fun cause final aux outcome h => ?endContent⟩⟩
  case wire =>
    obtain ⟨high, low, hwire, hcrc⟩ := f.wire_eq
    exact ⟨high, low, hwire, hcrc, f.wire_length⟩
  case restart => rw [ReportEntry.frame_payload_length]; rfl
  case header =>
    rw [ReportEntry.header, beBytes_one_toNat, beBytes_one (ownerNumber e.job)]
    cases e.job <;> rfl
  case restartContent =>
    obtain ⟨hkind, hlength, hbytes⟩ := ReportEntry.frame_of_content h
    refine ⟨hkind, hlength, ?_⟩
    rw [hbytes]
    cases cause <;> rfl
  case endContent =>
    obtain ⟨hkind, hlength, hbytes⟩ := ReportEntry.frame_of_content h
    refine ⟨hkind, hlength, ?_⟩
    rw [hbytes, ReportContent.bytes, beBytes_one, beBytes_one]
    exact congrArg₂ (fun c o => [c] ++ beBytes 5 final ++ beBytes 4 aux ++ [o])
      (by cases cause <;> rfl) (by cases outcome <;> rfl)

end Sys2Proof.Machine
end

section
/-! SUPPORT. R157: the byte that completes a frame. -/

namespace Sys2Proof.Machine

open Sys2Proof

/-! ### What the receiver reads from complete bytes (R152, R153) -/

theorem coveredOf_complete (sync high low : Byte) (covered : List Byte) :
    coveredOf (sync :: covered ++ [high, low]) = covered := by
  simp [coveredOf]

theorem carriedCrc_complete (sync high low : Byte) (covered : List Byte) :
    carriedCrc (sync :: covered ++ [high, low]) = high ++ low := by
  have hlast : (sync :: covered ++ [high, low]).drop ((sync :: covered ++ [high, low]).length - 2) = [high, low] :=
    List.drop_left' (by simp)
  rw [carriedCrc, hlast, byte_append_byte]
  simp [beNat]

theorem coveredOf_wire (f : Frame) : coveredOf f.wire = f.covered := by
  obtain ⟨high, low, hwire, -⟩ := f.wire_eq
  rw [hwire, coveredOf_complete]

theorem carriedCrc_wire (f : Frame) : carriedCrc f.wire = crc f.covered := by
  obtain ⟨high, low, hwire, hcrc⟩ := f.wire_eq
  rw [hwire, carriedCrc_complete, hcrc]

theorem frameOf_wire (f : Frame) : frameOf f.wire = f := by
  rw [frameOf, coveredOf_wire]
  rfl

/-! ### Settling a complete frame (R157) -/

theorem Part.settleFrame_of_wrongCrc (p : Part) {bytes : List Byte} (h : crc (coveredOf bytes) ≠ carriedCrc bytes) :
    p.settleFrame bytes = p.setErrors { p.port.errors with crc := satSucc 65535 p.port.errors.crc } :=
  if_pos h

/-- A frame as it leaves a transmitter passes the CRC check and is lost only when the buffer is full. -/
theorem Part.settleFrame_wire (p : Part) (f : Frame) :
    p.settleFrame f.wire =
      if 2 ≤ p.port.rxBuffer.length then
        p.setErrors { p.port.errors with overrun := satSucc 65535 p.port.errors.overrun }
      else { p with port := { p.port with rxBuffer := p.port.rxBuffer ++ [f] } } := by
  have hcrc : crc (coveredOf f.wire) = carriedCrc f.wire := by rw [coveredOf_wire, carriedCrc_wire]
  rw [Part.settleFrame, if_neg (not_not_intro hcrc), frameOf_wire]

/-! ### The byte that completes it (R154) -/

/-- A character with a high stop bit that the receiver takes outside CLOSED ends the wait for RXD high and is acted on. -/
theorem exec_byteReceived_taken {s : State} {high : Nat} (htakes : s.takesCharacter high = true)
    (hopen : s.port.rxState ≠ .closed) (b : Byte) :
    exec (.byteReceived ⟨b, .high, high⟩) s = .next (s.withPart (s.endHighWait.receiveByte b)) := by
  have hstep : s.toPart.byteStep ⟨b, .high, high⟩ = s.endHighWait.receiveByte b := by
    simp [Part.byteStep, htakes, hopen]
  calc exec (.byteReceived ⟨b, .high, high⟩) s
      = .next (s.withPart (s.toPart.byteStep ⟨b, .high, high⟩)) := rfl
    _ = .next (s.withPart (s.endHighWait.receiveByte b)) := by rw [hstep]

/-- The last CRC byte settles the frame under reception, and the receiver is in HUNT. -/
theorem Part.receiveByte_completing {p : Part} {taken : List Byte} (hcheck : p.port.rxState = .check)
    (hframe : p.port.rxFrame = some { taken := taken, expected := 1 }) (b : Byte) :
    p.receiveByte b = (p.setReceiver .hunt).settleFrame (taken ++ [b]) := by
  simp [Part.receiveByte, hcheck, Port.underReception, hframe]

theorem exec_byteReceived_completing {s : State} {high : Nat} {taken : List Byte} (htakes : s.takesCharacter high = true)
    (hcheck : s.port.rxState = .check) (hframe : s.port.rxFrame = some { taken := taken, expected := 1 }) (b : Byte) :
    exec (.byteReceived ⟨b, .high, high⟩) s =
      .next (s.withPart ((s.endHighWait.setReceiver .hunt).settleFrame (taken ++ [b]))) := by
  rw [exec_byteReceived_taken htakes (by rw [hcheck]; decide),
    Part.receiveByte_completing (p := s.endHighWait) hcheck hframe]

/-- Settles O10, by the CRC and by the room in the receive buffer. -/
theorem completeFrameIsSettled : Obligations.CompleteFrameIsSettled := by
  unfold Obligations.CompleteFrameIsSettled
  intro s b high taken htakes hcheck hframe
  rw [exec_byteReceived_completing htakes hcheck hframe]
  refine ⟨fun covered first htaken hcrc => ?wrongCrc, fun f hwire hfull => ?overrun, fun f hwire hroom => ?accepted⟩
  case wrongCrc =>
    have hbytes : taken ++ [b] = 0xB5#8 :: covered ++ [first, b] := by simp [htaken]
    rw [hbytes, Part.settleFrame_of_wrongCrc _ (by rwa [coveredOf_complete, carriedCrc_complete])]
    rfl
  case overrun =>
    rw [hwire, Part.settleFrame_wire, if_pos]
    · rfl
    · exact hfull
  case accepted =>
    rw [hwire, Part.settleFrame_wire, if_neg]
    · rfl
    · exact Nat.not_le.mpr hroom

end Sys2Proof.Machine
end

section
/-! SUPPORT. R164: the port after each of the three resets. -/

namespace Sys2Proof.Machine

open Sys2Proof

/-- The fresh port is as R164 says, whether or not a break lasts. -/
theorem Port.fresh_asReset (baud : Baud) (ready : Option Time) (inBreak : Bool) :
    ({ Port.fresh baud ready with inBreak := inBreak } : Port).asReset baud :=
  ⟨rfl, rfl, rfl, rfl, rfl, rfl, rfl, rfl, rfl⟩

theorem Part.complete_port_asReset (p : Part) (cause : ResetCause) (straps : BitVec 2) (inputs : BitVec 16) :
    (p.complete cause straps inputs).port.asReset (Baud.ofStraps straps) :=
  Port.fresh_asReset _ _ _

theorem Part.commandReset_port_asReset (p : Part) (inputs : BitVec 16) :
    (p.commandReset inputs).port.asReset p.port.baud :=
  Port.fresh_asReset _ _ _

/-- RESET_N's rise completes a pin reset, and a power-on reset that waited for it. -/
theorem Part.pinCompletionStep_port {p : Part} (h : p.resetHold = .pin ∨ p.resetHold = .powerWaiting)
    (straps : BitVec 2) (inputs : BitVec 16) :
    ∃ cause, (p.pinCompletionStep straps inputs).port = (p.complete cause straps inputs).port := by
  rcases h with hpin | hwaiting
  · exact ⟨.pin, by simp only [Part.pinCompletionStep, hpin]⟩
  · exact ⟨.power, by simp only [Part.pinCompletionStep, hwaiting]⟩

theorem Part.powerCompletionStep_of_high {p : Part} (hhold : p.resetHold = .power) (hpin : p.resetN = .high)
    (straps : BitVec 2) (inputs : BitVec 16) : p.powerCompletionStep straps inputs = p.complete .power straps inputs := by
  simp only [Part.powerCompletionStep, hhold, hpin]

theorem Part.commandResetStep_of_resetReply {p : Part} {f : Frame} (hdone : p.frameDone = some f)
    (hreply : f.isResetReply = true) (inputs : BitVec 16) : p.commandResetStep inputs = p.commandReset inputs := by
  simp only [Part.commandResetStep, hdone, hreply, if_true]

/-- Settles O7: each reset's step ends in the completion or in the command reset, which leave the fresh port. -/
theorem portAfterEveryReset : Obligations.PortAfterEveryReset := by
  unfold Obligations.PortAfterEveryReset
  refine ⟨fun s straps inputs hhold => ⟨_, rfl, ?pin⟩, fun s straps inputs hhold hpin => ⟨_, rfl, ?power⟩,
    fun s f inputs hdone hreply => ⟨_, rfl, ?command⟩⟩
  case pin =>
    obtain ⟨cause, hport⟩ := Part.pinCompletionStep_port hhold straps inputs
    exact hport ▸ s.complete_port_asReset cause straps inputs
  case power =>
    exact Part.powerCompletionStep_of_high hhold hpin straps inputs ▸ s.complete_port_asReset .power straps inputs
  case command =>
    exact Part.commandResetStep_of_resetReply hdone hreply inputs ▸ s.commandReset_port_asReset inputs

end Sys2Proof.Machine
end

section
/-! SUPPORT. R166, R177 and R179: what the line commands and the Host Port commands come to, value by value. -/

namespace Sys2Proof.Machine

open Sys2Proof

/-! ### Fields of one byte (R165) -/

@[simp] theorem field_head (b : Byte) (rest : List Byte) : field (b :: rest) 0 1 = b.toNat := by
  simp [field, beNat]

@[simp] theorem field_tail (b : Byte) (rest : List Byte) (offset width : Nat) :
    field (b :: rest) (offset + 1) width = field rest offset width := rfl

theorem field_second (a b : Byte) (rest : List Byte) : field (a :: b :: rest) 1 1 = b.toNat := by
  rw [field_tail, field_head]

/-! ### Packed bits (R177) -/

theorem packBits_cons (b : Bool) (bs : List Bool) : packBits (b :: bs) = Nat.bit b (packBits bs) := by
  cases b <;> simp [packBits, Nat.bit, Nat.add_comm]

/-- Bit `i` is entry `i` of the list. -/
theorem packBits_testBit (bs : List Bool) (i : Nat) (h : i < bs.length) : (packBits bs).testBit i = bs[i] := by
  induction bs generalizing i with
  | nil => exact absurd h (Nat.not_lt_zero i)
  | cons b bs ih =>
    rw [packBits_cons]
    cases i with
    | zero => exact Nat.testBit_bit_zero b _
    | succ i =>
      rw [Nat.testBit_bit_succ]
      exact ih i (Nat.lt_of_succ_lt_succ h)

theorem packBits_lt (bs : List Bool) : packBits bs < 2 ^ bs.length := by
  induction bs with
  | nil => exact Nat.one_pos
  | cons b bs ih =>
    rw [packBits_cons]
    exact Nat.bit_lt_two_pow_succ_iff.mpr ih

/-- One bit for each line of a vector, line 0 in bit 0. -/
theorem packBits_vector {α : Type} {n : Nat} (lines : Vector α n) (bit : α → Bool) :
    (∀ i : Fin n, (packBits (lines.toList.map bit)).testBit i.val = bit lines[i]) ∧
      packBits (lines.toList.map bit) < 2 ^ n := by
  refine ⟨fun i => ?bits, ?bound⟩
  case bits =>
    rw [packBits_testBit _ _ (by simp)]
    simp
  case bound => simpa using packBits_lt (lines.toList.map bit)

/-! ### The reply to a verdict (R159, R166) -/

/-- The step of row `i` is the intake of the command of kind `kind`, with the checks and the action `act`. -/
def CommandRow (i : Instr) (kind : Byte) (act : Part → List Byte → Verdict) : Prop :=
  ∀ s : State, exec i s = .next (s.withPart (s.toPart.command kind act))

theorem linecfgRow : CommandRow .linecfg 0x0E#8 actLinecfg := fun _ => rfl
theorem driveRow : CommandRow .drive 0x0F#8 actDrive := fun _ => rfl
theorem senseRow : CommandRow .sense 0x10#8 actSense := fun _ => rfl
theorem linkstatRow : CommandRow .linkstat 0x12#8 actLinkstat := fun _ => rfl
theorem resetRow : CommandRow .reset 0x13#8 actReset := fun _ => rfl

section
variable {i : Instr} {kind : Byte} {act : Part → List Byte → Verdict} {s : State} {f : Frame} {payload : List Byte}

/-- A denied frame is refused with the status and the detail of the verdict. -/
theorem CommandRow.denies (hrow : CommandRow i kind act) (htakes : s.Takes f) (hkind : f.kind = kind)
    (hpayload : f.payload = payload) {status : Status} {detail : Nat}
    (hverdict : act s.dropFrame payload = .deny status detail) :
    exec i s = .next (s.withPart (s.refused f (BitVec.ofNat 8 status.code) (BitVec.ofNat 8 detail))) := by
  rw [hrow s, Part.command_of_takes htakes hkind, hpayload, hverdict, Verdict.payload, replyHead, beBytes_one, beBytes_one]
  rfl

/-- A frame that is taken leaves the part of the verdict, with an OK reply that carries its body. -/
theorem CommandRow.answers (hrow : CommandRow i kind act) (htakes : s.Takes f) (hkind : f.kind = kind)
    (hpayload : f.payload = payload) {q : Part} {body : List Byte}
    (hverdict : act s.dropFrame payload = .taken q body) :
    exec i s = .next (s.withPart (q.answered f ([0x00#8, 0x00#8] ++ body))) := by
  rw [hrow s, Part.command_of_takes htakes hkind, hpayload, hverdict, Verdict.payload, replyHead, beBytes_one, beBytes_one]
  rfl

end

/-! ### LINECFG (R35, R177) -/

section
variable {p : Part} {line setting : Byte}

theorem actLinecfg_wrongLength {payload : List Byte} (h : payload.length ≠ 2) :
    actLinecfg p payload = .deny .badLength 0 := if_neg h

theorem actLinecfg_badLine (h : 16 ≤ line.toNat) : actLinecfg p [line, setting] = .deny .badLine 1 := by
  have hnone : inputOfNumber line.toNat = none := by simp [inputOfNumber, inputLineOk, h]
  simp [actLinecfg, hnone]

/-- On a line that exists, the setting decides (R35). -/
theorem actLinecfg_of_line {i : InId} (hline : line.toNat = i.val) :
    actLinecfg p [line, setting] =
      if 63 < setting.toNat then .deny .badParam 2
      else .taken (p.setInput i { p.inputs[i] with filter := setting.toNat }) [line, setting] := by
  have hsome : inputOfNumber line.toNat = some i := by rw [hline, inputOfNumber_val]
  simp [actLinecfg, hsome]

theorem actLinecfg_badSetting (hline : line.toNat < 16) (hsetting : 63 < setting.toNat) :
    actLinecfg p [line, setting] = .deny .badParam 2 := by
  rw [actLinecfg_of_line (i := ⟨line.toNat, hline⟩) rfl, if_pos hsetting]

theorem actLinecfg_taken {i : InId} (hline : line.toNat = i.val) (hsetting : setting.toNat ≤ 63) :
    actLinecfg p [line, setting] =
      .taken (p.setInput i { p.inputs[i] with filter := setting.toNat }) [line, setting] := by
  rw [actLinecfg_of_line hline, if_neg (Nat.not_lt.mpr hsetting)]

end

/-! ### DRIVE (R41, R177) -/

@[simp] theorem outputOfNumber_val (o : OutId) : outputOfNumber o.val = some o := by
  simp [outputOfNumber]

/-- The level that a byte 0x00 or 0x01 codes. -/
theorem levelOfCode_of_le_one {level : Byte} (h : level.toNat ≤ 1) :
    levelOfCode level.toNat = some (levelOfBit (decide (level = 0x01#8))) := by
  obtain rfl | rfl : level = 0x00#8 ∨ level = 0x01#8 := by bv_omega
  · rfl
  · rfl

theorem levelOfCode_of_one_lt {n : Nat} (h : 1 < n) : levelOfCode n = none := by
  match n, h with
  | n + 2, _ => rfl

/-- A level's code gives the level back. -/
theorem levelCode_of_levelOfCode {n : Nat} {level : Level} (h : levelOfCode n = some level) : levelCode level = n := by
  match n, h with
  | 0, rfl => rfl
  | 1, rfl => rfl

section
variable {p : Part} {line level : Byte}

theorem actDrive_wrongLength {payload : List Byte} (h : payload.length ≠ 2) :
    actDrive p payload = .deny .badLength 0 := if_neg h

theorem actDrive_badLine (h : 8 ≤ line.toNat) : actDrive p [line, level] = .deny .badLine 1 := by
  have hnone : outputOfNumber line.toNat = none := if_neg (Nat.not_lt.mpr h)
  simp [actDrive, hnone]

theorem actDrive_badLevel (hline : line.toNat < 8) (hlevel : 1 < level.toNat) :
    actDrive p [line, level] = .deny .badParam 2 := by
  have hsome : outputOfNumber line.toNat = some ⟨line.toNat, hline⟩ := outputOfNumber_val ⟨line.toNat, hline⟩
  simp [actDrive, hsome, levelOfCode_of_one_lt hlevel]

/-- On a line and a level that exist, the owner decides (R41). -/
theorem actDrive_of_line {o : OutId} (hline : line.toNat = o.val) (hlevel : level.toNat ≤ 1) :
    actDrive p [line, level] =
      match p.outputs[o].owner with
      | some k => .deny .lineBusy (jobNumber k)
      | none => .taken (p.setOutput o { level := levelOfBit (decide (level = 0x01#8)), owner := none })
          [line, level, 0x00#8] := by
  have hcode := levelOfCode_of_le_one hlevel
  have hsome : outputOfNumber line.toNat = some o := by rw [hline, outputOfNumber_val]
  have hechoLine : BitVec.ofNat 8 o.val = line := by rw [← hline, BitVec.ofNat_toNat, BitVec.setWidth_eq]
  have hechoLevel : BitVec.ofNat 8 (levelCode (levelOfBit (decide (level = 0x01#8)))) = level := by
    rw [levelCode_of_levelOfCode hcode, BitVec.ofNat_toNat, BitVec.setWidth_eq]
  simp only [actDrive, List.length_cons, List.length_nil, if_true, field_head, field_second, hsome, hcode, beBytes_one,
    hechoLine, hechoLevel]
  rfl

theorem actDrive_busy {o : OutId} {k : JobId} (hline : line.toNat = o.val) (hlevel : level.toNat ≤ 1)
    (howner : p.outputs[o].owner = some k) : actDrive p [line, level] = .deny .lineBusy (jobNumber k) := by
  rw [actDrive_of_line hline hlevel, howner]

theorem actDrive_taken {o : OutId} (hline : line.toNat = o.val) (hlevel : level.toNat ≤ 1)
    (howner : p.outputs[o].owner = none) :
    actDrive p [line, level] =
      .taken (p.setOutput o { level := levelOfBit (decide (level = 0x01#8)), owner := none }) [line, level, 0x00#8] := by
  rw [actDrive_of_line hline hlevel, howner]

end

/-! ### SENSE (R42, R177) -/

theorem actSense_wrongLength {p : Part} {payload : List Byte} (h : payload ≠ []) :
    actSense p payload = .deny .badLength 0 := if_neg (mt List.length_eq_zero_iff.mp h)

theorem actSense_taken (p : Part) : actSense p [] = .taken p p.senseBody := rfl

/-- Settles O18, each command by its verdicts; the bits of SENSE by `packBits_vector`. -/
theorem lineCommandsAct : Obligations.LineCommandsAct := by
  unfold Obligations.LineCommandsAct
  intro s f htakes
  refine ⟨fun hkind line setting hpayload => ?linecfg, fun hkind line level hpayload => ?drive,
    fun hkind hpayload => ?sense, fun hkind hlength => ?linecfgLength, fun hkind hlength => ?driveLength,
    fun hkind hlength => ?senseLength⟩
  case linecfg =>
    exact ⟨fun hline => linecfgRow.denies htakes hkind hpayload (actLinecfg_badLine hline),
      fun hline hsetting => linecfgRow.denies htakes hkind hpayload (actLinecfg_badSetting hline hsetting),
      fun i hline hsetting => linecfgRow.answers htakes hkind hpayload (actLinecfg_taken hline hsetting)⟩
  case drive =>
    exact ⟨fun hline => driveRow.denies htakes hkind hpayload (actDrive_badLine hline),
      fun hline hlevel => driveRow.denies htakes hkind hpayload (actDrive_badLevel hline hlevel),
      fun o hline hlevel =>
        ⟨fun k howner => driveRow.denies htakes hkind hpayload (actDrive_busy hline hlevel howner),
          fun howner => driveRow.answers htakes hkind hpayload (actDrive_taken hline hlevel howner)⟩⟩
  case sense =>
    obtain ⟨hfiltered, hfilteredLt⟩ := packBits_vector s.inputs (fun l => decide (l.filtered = .high))
    obtain ⟨hchanging, hchangingLt⟩ := packBits_vector s.inputs (fun l => l.change.isSome)
    obtain ⟨hdriven, hdrivenLt⟩ := packBits_vector s.outputs (fun l => decide (l.level = .high))
    exact ⟨_, _, _, hfiltered, hfilteredLt, hchanging, hchangingLt, hdriven, hdrivenLt,
      senseRow.answers htakes hkind hpayload (actSense_taken s.dropFrame)⟩
  case linecfgLength => exact linecfgRow.denies htakes hkind rfl (actLinecfg_wrongLength hlength)
  case driveLength => exact driveRow.denies htakes hkind rfl (actDrive_wrongLength hlength)
  case senseLength => exact senseRow.denies htakes hkind rfl (actSense_wrongLength hlength)

/-! ### LINKSTAT and RESET (R161, R162, R179) -/

section
variable {p : Part} {payload : List Byte}

theorem actLinkstat_wrongLength (h : payload.length ≠ 1) : actLinkstat p payload = .deny .badLength 0 := if_neg h

theorem actLinkstat_keep (p : Part) : actLinkstat p [0x00#8] = .taken p p.linkstatBody := rfl

theorem actLinkstat_clear (p : Part) : actLinkstat p [0x01#8] = .taken p.clearErrors p.linkstatBody := rfl

theorem actLinkstat_badFlag {flag : Byte} (hzero : flag ≠ 0x00#8) (hone : flag ≠ 0x01#8) :
    actLinkstat p [flag] = .deny .badParam 1 := by
  obtain ⟨n, hn⟩ : ∃ n, flag.toNat = n + 2 := ⟨flag.toNat - 2, by bv_omega⟩
  simp only [actLinkstat, List.length_cons, List.length_nil, if_true, field_head, hn]

@[simp] theorem Part.linkstatBody_length (p : Part) : p.linkstatBody.length = 16 := by
  simp [Part.linkstatBody]

theorem actReset_wrongLength (h : payload ≠ []) : actReset p payload = .deny .badLength 0 :=
  if_neg (mt List.length_eq_zero_iff.mp h)

theorem actReset_taken (p : Part) :
    actReset p [] =
      .taken { p with port := { p.port with
        rxState := .closed, rxFrame := none, gapExpiry := none, resetPending := true } } [] := rfl

end

/-- Settles O17, by the flag of LINKSTAT and the length of each payload. -/
theorem linkstatAndResetAct : Obligations.LinkstatAndResetAct := by
  unfold Obligations.LinkstatAndResetAct
  intro s f htakes
  refine ⟨fun hkind flag hpayload => ⟨s.linkstatBody, s.linkstatBody_length, rfl, ?keep, ?clear, ?badFlag⟩,
    fun hkind hlength => ?linkstatLength, fun hkind hpayload => ?reset, fun hkind hlength => ?resetLength⟩
  case keep =>
    rintro rfl
    exact linkstatRow.answers htakes hkind hpayload (actLinkstat_keep s.dropFrame)
  case clear =>
    rintro rfl
    exact linkstatRow.answers htakes hkind hpayload (actLinkstat_clear s.dropFrame)
  case badFlag =>
    exact fun hzero hone => linkstatRow.denies htakes hkind hpayload (actLinkstat_badFlag hzero hone)
  case linkstatLength => exact linkstatRow.denies htakes hkind rfl (actLinkstat_wrongLength hlength)
  case reset => exact resetRow.answers htakes hkind hpayload (actReset_taken s.dropFrame)
  case resetLength => exact resetRow.denies htakes hkind rfl (actReset_wrongLength hlength)

end Sys2Proof.Machine
end

section
/-! SUPPORT. R134, R138, R142: the laws of the Report Queue by themselves, and what each operation on the queue does to them. -/

namespace Sys2Proof.Machine

open Sys2Proof

/-- The laws of the report queue, its numbering and its timer, as a property of the Delivery Controller alone. -/
def Reporter.Law (r : Reporter) : Prop :=
  numbered r.nextSeq r.queue = true ∧
  r.queue.Pairwise (fun a b => a.delivery.rank ≤ b.delivery.rank) ∧
  r.queue.countP (fun e => decide (e.delivery ≠ .new)) ≤ 8 ∧
  (r.timer.isSome = true ↔ r.link = .up ∧ 0 < sentCount r.queue)

theorem Part.queueLaw_iff (p : Part) : p.QueueLaw ↔ p.reports.Law := Iff.rfl

/-! ### Numbering (R134) -/

/-- A report that is appended takes the next number. -/
theorem numbered_append {next : BitVec 16} {q : List ReportEntry} {e : ReportEntry} (h : numbered next q = true)
    (he : e.seq = next) : numbered (next + 1#16) (q ++ [e]) = true := by
  induction q with
  | nil => simp [numbered, he]
  | cons x xs ih =>
    simp only [numbered, Bool.and_eq_true, decide_eq_true_eq] at h
    simp only [List.cons_append, numbered, Bool.and_eq_true, decide_eq_true_eq]
    refine ⟨?_, ih h.2⟩
    rw [h.1]
    apply BitVec.eq_of_toNat_eq
    simp only [BitVec.toNat_sub, BitVec.toNat_add, BitVec.toNat_ofNat, List.length_append, List.length_cons, List.length_nil]
    have := next.isLt
    omega

/-- The numbers go by the sequence numbers alone. -/
theorem numbered_map {next : BitVec 16} {q : List ReportEntry} {f : ReportEntry → ReportEntry}
    (hseq : ∀ e, (f e).seq = e.seq) : numbered next (q.map f) = numbered next q := by
  induction q with
  | nil => rfl
  | cons x xs ih => simp [numbered, hseq, ih]

theorem numbered_drop {next : BitVec 16} {q : List ReportEntry} (h : numbered next q = true) (n : Nat) :
    numbered next (q.drop n) = true := by
  induction q generalizing n with
  | nil => simpa using h
  | cons x xs ih =>
    cases n with
    | zero => exact h
    | succ n =>
      simp only [numbered, Bool.and_eq_true] at h
      exact ih h.2 n

theorem numbered_markSent {next seq : BitVec 16} {q : List ReportEntry} :
    (markSent seq q).length = q.length ∧ numbered next (markSent seq q) = numbered next q := by
  induction q with
  | nil => exact ⟨rfl, rfl⟩
  | cons x xs ih =>
    unfold markSent
    split
    · exact ⟨rfl, rfl⟩
    · simp [numbered, ih]

/-! ### Entries that are not SENT (R138) -/

@[simp] theorem markSent_length (seq : BitVec 16) (q : List ReportEntry) : (markSent seq q).length = q.length :=
  (numbered_markSent (next := 0#16)).1

/-- In R138's order the entry to send is the first that is not SENT, and no RESEND entry stands behind a NEW one. -/
theorem nextToSend_split {q : List ReportEntry} (horder : q.Pairwise (fun a b => a.delivery.rank ≤ b.delivery.rank))
    {e : ReportEntry} (h : nextToSend q = some e) :
    ∃ pre post, q = pre ++ e :: post ∧ (∀ x ∈ pre, x.delivery = .sent) ∧ e.delivery ≠ .sent ∧
      (e.delivery = .new → ∀ x ∈ post, x.delivery = .new) := by
  induction q with
  | nil => simp [nextToSend] at h
  | cons x xs ih =>
    rw [List.pairwise_cons] at horder
    cases hx : x.delivery with
    | sent =>
      have hrest : nextToSend xs = some e := by
        simpa [nextToSend, hx] using h
      obtain ⟨pre, post, rfl, hpre, he, hnew⟩ := ih horder.2 hrest
      exact ⟨x :: pre, post, rfl, by simpa [hx] using hpre, he, hnew⟩
    | resend =>
      obtain rfl : x = e := by simpa [nextToSend, hx] using h
      exact ⟨[], xs, rfl, by simp, by simp [hx], by simp [hx]⟩
    | new =>
      have hall : ∀ y ∈ xs, y.delivery = .new := fun y hy => by
        have := horder.1 y hy
        revert this
        cases y.delivery <;> simp [hx, DeliveryState.rank]
      have hnone : xs.find? (fun e => decide (e.delivery = .resend)) = none := by
        simp only [List.find?_eq_none, decide_eq_true_eq]
        intro y hy
        simp [hall y hy]
      obtain rfl : x = e := by simpa [nextToSend, hx, hnone] using h
      exact ⟨[], xs, rfl, by simp, by simp [hx], fun _ => hall⟩

/-- The entry that becomes SENT is the first that is not (R139). -/
theorem markSent_split {pre post : List ReportEntry} {e : ReportEntry} (hpre : ∀ x ∈ pre, x.delivery = .sent)
    (he : e.delivery ≠ .sent) : markSent e.seq (pre ++ e :: post) = pre ++ { e with delivery := .sent } :: post := by
  induction pre with
  | nil => simp [markSent, he]
  | cons x xs ih =>
    have hx : x.delivery = .sent := hpre x (by simp)
    simp only [List.cons_append, markSent, hx, ne_eq, not_true_eq_false, and_false, if_false]
    rw [ih (fun y hy => hpre y (by simp [hy]))]

/-! ### The law, operation by operation -/

theorem Reporter.eligible_some {r : Reporter} {e : ReportEntry} (h : r.eligible = some e) :
    r.link = .up ∧ sentCount r.queue < 8 ∧ nextToSend r.queue = some e := by
  unfold Reporter.eligible at h
  split at h
  · obtain ⟨hup, hfew⟩ := ‹_ ∧ _›
    exact ⟨hup, hfew, h⟩
  · cases h

theorem sentCount_map {q : List ReportEntry} {f : ReportEntry → ReportEntry} (h : ∀ e, (f e).delivery = e.delivery) :
    sentCount (q.map f) = sentCount q := by
  simp [sentCount, List.countP_map, Function.comp_def, h]

/-- An update of the entries that leaves number and delivery state of each keeps the law. -/
theorem Reporter.Law.map {r r' : Reporter} (h : r.Law) {f : ReportEntry → ReportEntry} (hseq : ∀ e, (f e).seq = e.seq)
    (hdel : ∀ e, (f e).delivery = e.delivery) (hq : r'.queue = r.queue.map f) (hnext : r'.nextSeq = r.nextSeq)
    (hlink : r'.link = r.link) (htimer : r'.timer = r.timer) : r'.Law := by
  obtain ⟨hnum, hord, hcount, htime⟩ := h
  refine ⟨?_, ?_, ?_, ?_⟩
  · rw [hq, hnext, numbered_map hseq, hnum]
  · simpa [hq, List.pairwise_map, hdel] using hord
  · simpa [hq, List.countP_map, Function.comp_def, hdel] using hcount
  · rw [hq, hlink, htimer, sentCount_map hdel, htime]

/-- The law rests on queue, numbering, link and timer only. -/
theorem Reporter.Law.congr {r r' : Reporter} (h : r.Law) (hq : r'.queue = r.queue) (hnext : r'.nextSeq = r.nextSeq)
    (hlink : r'.link = r.link) (htimer : r'.timer = r.timer) : r'.Law :=
  h.map (f := id) (fun _ => rfl) (fun _ => rfl) (by simpa using hq) hnext hlink htimer

/-- An admission keeps the law (R133, R134). -/
theorem Reporter.Law.admission {r r' : Reporter} (h : r.Law) {e : ReportEntry} (hseq : e.seq = r.nextSeq)
    (hnew : e.delivery = .new) (hq : r'.queue = r.queue ++ [e]) (hnext : r'.nextSeq = r.nextSeq + 1#16)
    (hlink : r'.link = r.link) (htimer : r'.timer = r.timer) : r'.Law := by
  obtain ⟨hnum, hord, hcount, htime⟩ := h
  refine ⟨?_, ?_, ?_, ?_⟩
  · rw [hq, hnext]
    exact numbered_append hnum hseq
  · rw [hq, List.pairwise_append]
    refine ⟨hord, by simp, fun a _ b hb => ?_⟩
    obtain rfl := List.mem_singleton.1 hb
    rw [hnew]
    cases a.delivery <;> decide
  · simpa [hq, List.countP_append, hnew] using hcount
  · simpa [hq, hlink, htimer, sentCount, List.countP_append, hnew] using htime

/-- The frame of the eligible report begins (R139, R142). -/
theorem Reporter.Law.begin {r : Reporter} (h : r.Law) {e : ReportEntry} (he : r.eligible = some e) (now : Time) :
    (r.begin now e).Law := by
  obtain ⟨hnum, hord, hcount, htime⟩ := h
  obtain ⟨hup, hfew, hnext⟩ := Reporter.eligible_some he
  obtain ⟨pre, post, hq, hpre, hunsent, hrest⟩ := nextToSend_split hord hnext
  have hmark : (r.begin now e).queue = pre ++ { e with delivery := .sent } :: post := by
    rw [Reporter.begin, hq, markSent_split hpre hunsent]
  have hsent : 0 < sentCount (r.begin now e).queue := by
    rw [hmark]
    simp [sentCount, List.countP_append]
  refine ⟨?_, ?_, ?_, ?_⟩
  · exact (numbered_markSent).2.trans hnum
  · rw [hmark]
    rw [hq, List.pairwise_append, List.pairwise_cons] at hord
    obtain ⟨hpp, ⟨-, hpost⟩, -⟩ := hord
    refine List.pairwise_append.2 ⟨hpp, List.pairwise_cons.2 ⟨fun b _ => Nat.zero_le _, hpost⟩, fun a ha b _ => ?_⟩
    simp [hpre a ha, DeliveryState.rank]
  · rw [hmark]
    rw [hq] at hcount hfew
    simp only [sentCount, List.countP_append, List.countP_cons] at hcount hfew ⊢
    cases hd : e.delivery with
    | sent => exact absurd hd hunsent
    | resend => simpa [hd] using hcount
    | new =>
      have hnone : post.countP (fun x => decide (x.delivery ≠ .new)) = 0 :=
        List.countP_eq_zero.2 fun x hx => by simp [hrest hd x hx]
      have hpres : pre.countP (fun x => decide (x.delivery ≠ .new)) ≤ pre.countP (fun x => decide (x.delivery = .sent)) :=
        List.countP_mono_left fun x hx _ => by simp [hpre x hx]
      simp only [ne_eq, reduceCtorEq, not_false_eq_true, decide_true, if_true] at *
      omega
  · refine ⟨fun _ => ⟨hup, hsent⟩, fun _ => ?_⟩
    simp only [Reporter.begin]
    split
    · rfl
    · exact htime.2 ⟨hup, Nat.pos_of_ne_zero ‹_›⟩

/-- An ACK removes from the head (R141). -/
theorem Reporter.Law.remove {r : Reporter} (h : r.Law) (now : Time) (n : Nat) : (r.remove now n).Law := by
  obtain ⟨hnum, hord, hcount, htime⟩ := h
  have hsub : (r.queue.drop n).Sublist r.queue := List.drop_sublist n _
  refine ⟨numbered_drop hnum n, hord.sublist hsub, (hsub.countP_le).trans hcount, ?_⟩
  simp only [Reporter.remove, Reporter.timerAfterAck]
  cases hlink : r.link with
  | up =>
    by_cases h0 : sentCount (r.queue.drop n) = 0
    · simp [h0]
    · simp [h0, Nat.pos_of_ne_zero h0]
  | lost => simp

/-- No entry is SENT once all SENT entries have become RESEND (R143, R146). -/
theorem sentCount_resendAll (q : List ReportEntry) : sentCount (resendAll q) = 0 := by
  simp only [sentCount, resendAll, List.countP_map, List.countP_eq_zero]
  intro e _
  by_cases h : e.delivery = .sent <;> simp [h]

theorem Reporter.Law.resendAll {r r' : Reporter} (h : r.Law) (hq : r'.queue = resendAll r.queue)
    (hnext : r'.nextSeq = r.nextSeq) (htimer : r'.timer = none) : r'.Law := by
  obtain ⟨hnum, hord, hcount, -⟩ := h
  refine ⟨?_, ?_, ?_, ?_⟩
  · rw [hq, hnext, Machine.resendAll, numbered_map (fun e => by split <;> rfl), hnum]
  · rw [hq, Machine.resendAll, List.pairwise_map]
    refine hord.imp fun {a b} hab => ?_
    revert hab
    cases ha : a.delivery <;> cases hb : b.delivery <;> simp [ha, hb, DeliveryState.rank]
  · rw [hq, Machine.resendAll, List.countP_map]
    refine (List.countP_mono_left fun e _ he => ?_).trans hcount
    by_cases hs : e.delivery = .sent <;> simp_all
  · simp [hq, htimer, sentCount_resendAll]

theorem Reporter.Law.expire {r : Reporter} (h : r.Law) (t : Time) : (r.expire t).Law := by
  unfold Reporter.expire
  split
  · exact h.resendAll rfl rfl rfl
  · obtain ⟨hnum, hord, hcount, -⟩ := h
    exact ⟨hnum, hord, hcount, by simp⟩

theorem Reporter.fresh_law : Reporter.fresh.Law := by
  simp [Reporter.Law, Reporter.fresh, numbered, sentCount]

theorem Reporter.restarted_law (cause : ResetCause) (t : Time) : (Reporter.restarted cause t).Law := by
  simp [Reporter.Law, Reporter.restarted, Reporter.fresh, restartEntry, numbered, sentCount]

end Sys2Proof.Machine
end

section
/-! SUPPORT. What an ending, a grant and the entry into HELD write, field by field (R9, R10, R15, R27). -/

namespace Sys2Proof.Machine

open Sys2Proof

/-! ### Steps 1 to 5 of an ending (R27) -/

/-- A job with no definition has nothing to end. -/
theorem Part.endSteps_of_none {p : Part} {j : JobId} (h : p.jobs[j].defn = none) (cause : EndCause) (endTime : Time)
    (sample : Nat) : p.endSteps j cause endTime sample = p := by
  simp only [Part.endSteps, Part.workOf, h]

/-- The values that an ending of job `j` records (R27). -/
def Part.endValues (p : Part) (j : JobId) (w : Work) (cause : EndCause) (endTime : Time) (sample : Nat) : EndRecord :=
  w.ending p.jobs[j].state cause endTime (p.countOf j) (p.leftAt j endTime) sample

/-- The part as steps 1 to 3 leave it, with what is left of the progress: entry removed, cells freed, line released, edges
that the job has not taken dropped. -/
def Part.cleared (p : Part) (j : JobId) (w : Work) : Part :=
  ((((p.setWork j w).unschedule j).freeCellsOf j).releaseLine j).dropDeliveries j

theorem Part.releaseLine_outputs (p : Part) (j : JobId) (o : OutId) :
    (p.releaseLine j).outputs[o.val] =
      match p.ownedOutput j with
      | none => p.outputs[o.val]
      | some u => if o = u.line then { level := u.idle, owner := none } else p.outputs[o.val] := by
  unfold Part.releaseLine
  split <;> simp [*, Part.setOutput_outputs]

section
variable {p : Part} {j : JobId} {d : Definition} (cause : EndCause) (endTime : Time) (sample : Nat)
  (h : p.jobs[j].defn = some d)
include h

theorem Part.endSteps_eq :
    p.endSteps j cause endTime sample =
      ((p.cleared j (p.endValues j d.work cause endTime sample).work).setJob j
        { (p.cleared j (p.endValues j d.work cause endTime sample).work).jobs[j] with
          state := .ended, staged := none,
          result := some { cause := cause, final := (p.endValues j d.work cause endTime sample).final,
                           aux := (p.endValues j d.work cause endTime sample).aux, endTime := endTime,
                           outcome := .none } }).admitEnd j cause (p.endValues j d.work cause endTime sample).final
        (p.endValues j d.work cause endTime sample).aux endTime := by
  simp only [Part.endSteps, Part.workOf_some h, Part.endValues, Part.cleared]

theorem Part.endSteps_jobs :
    (p.endSteps j cause endTime sample).jobs[j] =
      { state := .ended, defn := some { d with work := (p.endValues j d.work cause endTime sample).work },
        run := p.jobs[j].run, cells := [], staged := none,
        result := some { cause := cause, final := (p.endValues j d.work cause endTime sample).final,
                         aux := (p.endValues j d.work cause endTime sample).aux, endTime := endTime, outcome := .none },
        lost := 0, reservation := false } :=
  Part.endSteps_jobs_self cause endTime sample h

theorem Part.endSteps_jobs_ne {k : JobId} (hk : k ≠ j) :
    (p.endSteps j cause endTime sample).jobs[k] = p.jobs[k] := by
  rw [Part.endSteps_eq cause endTime sample h]
  simp [Part.admitEnd, Part.cleared, Part.setJob_jobs_ne _ _ hk, Part.freeCellsOf_jobs_ne _ hk, Part.setWork_jobs_ne _ _ hk]

theorem Part.endSteps_schedule :
    (p.endSteps j cause endTime sample).schedule = p.schedule.filter (fun e => decide (e.job ≠ j)) := by
  rw [Part.endSteps_eq cause endTime sample h]
  simp [Part.cleared]

theorem Part.endSteps_deliveries :
    (p.endSteps j cause endTime sample).deliveries = p.deliveries.filter (fun x => decide (x.job ≠ j)) := by
  rw [Part.endSteps_eq cause endTime sample h]
  simp [Part.cleared]

theorem Part.endSteps_cells (c : CellId) :
    (p.endSteps j cause endTime sample).cells[c] = if p.cells[c].owner = some j then Cell.free else p.cells[c] := by
  rw [Part.endSteps_eq cause endTime sample h]
  simp only [Fin.getElem_fin, Part.admitEnd_cells, Part.setJob_cells, Part.cleared, Part.dropDeliveries_cells,
    Part.releaseLine_cells, Part.freeCellsOf_cells]
  rfl

/-- The line that the definition names is at idle and unowned if the job owned it; every other line is as it was. -/
theorem Part.endSteps_outputs (o : OutId) :
    (p.endSteps j cause endTime sample).outputs[o] =
      match p.ownedOutput j with
      | none => p.outputs[o]
      | some u => if o = u.line then { level := u.idle, owner := none } else p.outputs[o] := by
  rw [Part.endSteps_eq cause endTime sample h]
  generalize (p.endValues j d.work cause endTime sample).work = w
  have howned : (((p.setWork j w).unschedule j).freeCellsOf j).ownedOutput j = p.ownedOutput j := by
    simp only [Part.ownedOutput, Fin.getElem_fin, Part.freeCellsOf_jobs_self, Part.unschedule_jobs, Part.setWork_jobs_self,
      Part.freeCellsOf_outputs, Part.unschedule_outputs, Part.setWork_outputs, show p.jobs[j.val].defn = some d from h,
      Option.map_some] <;> rfl
  simp only [Fin.getElem_fin, Part.admitEnd_outputs, Part.setJob_outputs, Part.cleared, Part.dropDeliveries_outputs,
    Part.releaseLine_outputs, howned]
  rfl

theorem Part.endSteps_reports :
    (p.endSteps j cause endTime sample).reports =
      { p.reports with
        queue := p.reports.queue ++
          [{ seq := p.reports.nextSeq, job := some j, run := p.jobs[j].run, time := endTime, lost := p.jobs[j].lost,
             content := .ended cause (p.endValues j d.work cause endTime sample).final
               (p.endValues j d.work cause endTime sample).aux .none,
             delivery := .new, thisStart := true }]
        nextSeq := p.reports.nextSeq + 1#16, reservations := p.reports.reservations - 1 } := by
  rw [Part.endSteps_eq cause endTime sample h]
  simp [Part.admitEnd, Part.cleared, Part.enqueue]

end

/-- An ending keeps the output line, the cells needed and the entries' purpose of the definition (R4). -/
theorem Work.ending_needs (w : Work) (st : JobState) (cause : EndCause) (endTime : Time) (count left sample : Nat) :
    (w.ending st cause endTime count left sample).work.cellsNeeded = w.cellsNeeded ∧
      (w.ending st cause endTime count left sample).work.purpose = w.purpose := by
  cases w <;> exact ⟨rfl, rfl⟩

/-! ### The grants of a start (R9, R10) -/

theorem Work.fresh_needs (w : Work) : w.fresh.cellsNeeded = w.cellsNeeded ∧ w.fresh.purpose = w.purpose := by
  cases w <;> exact ⟨rfl, rfl⟩

section
variable (p : Part) (j : JobId) (d : Definition) (cs : List CellId)

theorem Part.grant_outputs (o : OutId) :
    (p.grant j d cs).outputs[o] =
      match d.output with
      | none => p.outputs[o]
      | some u => if o = u.line then { level := u.idle, owner := some j } else p.outputs[o] := by
  have hgrant : (p.grant j d cs).outputs = (p.takeLine j d).outputs := by simp [Part.grant]
  rw [hgrant, Part.takeLine]
  cases d.output with
  | none => rfl
  | some u => exact p.setOutput_outputs u.line o _

theorem Part.grant_cells (c : CellId) :
    (p.grant j d cs).cells[c] = if c ∈ cs then { owner := some j, count := 0#16, phase := none } else p.cells[c] := by
  simp [Part.grant, Part.giveCells_cells]

theorem Part.grant_reports :
    (p.grant j d cs).reports = { p.reports with
      reservations := p.reports.reservations + 1
      queue := p.reports.queue.map (fun e => if e.job = some j then { e with thisStart := false } else e) } := by
  simp [Part.grant, Part.closeReports]

end

theorem Part.lineHolder_none {p : Part} {j : JobId} {d : Definition} (h : p.lineHolder j d = none) {u : OutputUse}
    (hu : d.output = some u) {k : JobId} (hk : p.outputs[u.line].owner = some k) : k = j := by
  simp only [Part.lineHolder, hu, hk] at h
  by_contra hne
  simp [hne] at h

end Sys2Proof.Machine
end

section
/-! SUPPORT. What a step does to the jobs and to what they hold, in small moves: each law of the machine rests on a few
fields of the part, so it is kept by every step as soon as every move keeps it. -/

namespace Sys2Proof.Machine

open Sys2Proof

/-- What the laws of lines, cells and schedule read of a definition: its output line, the cells its kind needs and the
purpose of its deadline entries. -/
def Definition.shape (d : Definition) : Option OutputUse × Nat × Option Purpose :=
  (d.output, d.work.cellsNeeded, d.work.purpose)

/-- Two records that the laws cannot tell apart, but for a staged alteration and the lost counter. -/
structure Job.Like (b b' : Job) : Prop where
  state : b'.state = b.state
  shape : b'.defn.map Definition.shape = b.defn.map Definition.shape
  cells : b'.cells = b.cells
  reservation : b'.reservation = b.reservation
  result : b'.result.isSome = b.result.isSome
  staged : b'.staged.isSome = true → b.staged.isSome = true ∨ b.state.stages = true
  lost : b.lost ≤ 255 ∧ (b.state.live = false → b.lost = 0) → b'.lost ≤ 255 ∧ (b.state.live = false → b'.lost = 0)

theorem Job.Like.refl {b : Job} : b.Like b := ⟨rfl, rfl, rfl, rfl, rfl, .inl, id⟩

/-- The laws of the Host Port, as a property of the port alone. -/
def Port.Law (q : Port) : Prop :=
  (q.rxFrame.isSome = true ↔ q.rxState.inFrame = true) ∧
  (q.gapExpiry.isSome = true ↔ q.rxState.inFrame = true) ∧
  (q.resetPending = true ↔ q.rxState = .closed) ∧
  q.rxBuffer.length ≤ 2 ∧ q.replies.length ≤ 4 ∧
  q.errors.noise ≤ 65535 ∧ q.errors.badFrameLength ≤ 65535 ∧ q.errors.gap ≤ 65535 ∧
  q.errors.crc ≤ 65535 ∧ q.errors.breaks ≤ 65535 ∧ q.errors.overrun ≤ 65535

theorem Part.portLaw_iff (p : Part) : p.PortLaw ↔ p.port.Law := Iff.rfl

/-- The laws that speak of the jobs and of what they hold; the law of the port is apart. -/
def Part.Orderly (p : Part) : Prop :=
  p.ReservationLaw ∧ p.QueueLaw ∧ p.ScheduleLaw ∧ p.OutputLaw ∧ p.CellLaw ∧ p.RecordLaw

/-- The entries of `p` for job `j` may have `purpose`: the job works, and its kind and mode place such entries (R80). -/
def Part.MayPlace (p : Part) (j : JobId) (purpose : Purpose) : Prop :=
  p.jobs[j].state.working = true ∧ (p.workOf j).bind Work.purpose = some purpose

/-- One small change of a part, as the operations of the model make them. -/
inductive Move : Part → Part → Prop
  /-- Neither the jobs nor anything they hold changes. -/
  | other {p q : Part} (jobs : q.jobs = p.jobs) (outputs : q.outputs = p.outputs) (cells : q.cells = p.cells)
      (schedule : q.schedule = p.schedule) (deliveries : q.deliveries = p.deliveries) (reports : q.reports = p.reports) :
      Move p q
  /-- Progress, staged alterations and lost counters change. -/
  | records {p : Part} (v : Vector Job 32) (like : ∀ j : JobId, p.jobs[j].Like v[j]) : Move p { p with jobs := v }
  /-- The level of a line that no job owns, or that a working job owns. -/
  | output {p : Part} (o : OutId) (l : OutputLine) (owner : l.owner = p.outputs[o].owner)
      (free : ∀ j, l.owner = some j → p.jobs[j].state.working = true) : Move p (p.setOutput o l)
  /-- Count or phase of a cell that a job holds. -/
  | cell {p : Part} (c : CellId) (x : Cell) (owner : x.owner = p.cells[c].owner)
      (held : ∃ j : JobId, c ∈ p.jobs[j].cells) : Move p (p.setCell c x)
  /-- Entries leave the schedule. -/
  | lapse {p : Part} (l : List DeadlineEntry) (sub : l.Sublist p.schedule) : Move p { p with schedule := l }
  /-- A job gets an entry, or a new one in place of one of the same purpose. -/
  | place {p : Part} (j : JobId) (purpose : Purpose) (due : Time)
      (may : p.MayPlace j purpose ∨ ∃ e ∈ p.schedule, e.job = j ∧ e.purpose = purpose) : Move p (p.place j purpose due)
  /-- Edges go out to live jobs, or are taken. -/
  | edges {p : Part} (l : List Delivery) (live : ∀ d ∈ l, d ∈ p.deliveries ∨ p.jobs[d.job].state.live = true) :
      Move p { p with deliveries := l }
  /-- The reports change, with the reservations as they are. -/
  | reports {p : Part} (r : Reporter) (law : p.reports.Law → r.Law)
      (reservations : r.reservations = p.reports.reservations)
      (room : p.occupancy + p.reports.reservations ≤ 64 → r.queue.length + r.reservations ≤ 64) :
      Move p { p with reports := r }
  /-- A live job moves into another live state. -/
  | turn {p : Part} (j : JobId) (st : JobState) (live : p.jobs[j].state.live = true) (live' : st.live = true)
      (staged : p.jobs[j].staged.isSome = true → st.stages = true)
      (entries : st.working = true ∨ ∀ e ∈ p.schedule, e.job ≠ j)
      (idle : st = .armed ∨ st = .held → ∀ (d : Definition) (o : OutId), p.jobs[j].defn = some d →
        p.outputs[o].owner = some j → d.idleAt o p.outputs[o].level = true) : Move p (p.setState j st)
  /-- A job is started (R9, R10). -/
  | start {p : Part} (j : JobId) (d : Definition) (cs : List CellId) (st : JobState)
      (idle : p.jobs[j].state = .defined ∨ p.jobs[j].state = .ended) (defn : p.jobs[j].defn = some d)
      (claim : p.claim j d = .granted cs) (state : st = .armed ∨ st = .running) : Move p ((p.grant j d cs).setState j st)
  /-- A live job ends, by steps 1 to 5 of R27. -/
  | finish {p : Part} (j : JobId) (cause : EndCause) (endTime : Time) (sample : Nat)
      (live : p.jobs[j].state.live = true) : Move p (p.endSteps j cause endTime sample)
  /-- A job that is not live is defined anew or deleted (R6, R20). -/
  | redefine {p : Part} (j : JobId) (b : Job) (idle : p.jobs[j].state.live = false)
      (record : b = Job.free ∨ ∃ d, b = Job.defined d) : Move p (p.setJob j b)
  /-- A reset: all laws hold after it (R29). -/
  | reset {p q : Part} (orderly : q.Orderly) : Move p q

/-- Several moves, one after another. -/
abbrev Moves : Part → Part → Prop := Relation.ReflTransGen Move

/-! ### Records that are alike -/

theorem Job.names_eq {b b' : Job} (h : b'.defn.map Definition.shape = b.defn.map Definition.shape) (o : OutId) :
    b'.names o = b.names o := by
  have hn : ∀ b : Job, b.names o = match b.defn.map Definition.shape with
      | none => false
      | some s => match s.1 with
        | none => false
        | some u => decide (u.line = o) := by
    intro b
    unfold Job.names
    cases b.defn with
    | none => rfl
    | some d => simp only [Option.map_some, Definition.shape] <;> rfl
  rw [hn, hn, h]

theorem Part.workOf_eq_map (p : Part) (j : JobId) : p.workOf j = p.jobs[j].defn.map (fun d => d.work) := by
  unfold Part.workOf
  cases p.jobs[j].defn <;> rfl

theorem Part.needs_eq (p : Part) (j : JobId) :
    (p.workOf j).map Work.cellsNeeded = (p.jobs[j].defn.map Definition.shape).map (fun s => s.2.1) := by
  rw [Part.workOf_eq_map]
  cases p.jobs[j].defn <;> rfl

theorem Part.purpose_eq (p : Part) (j : JobId) :
    (p.workOf j).bind Work.purpose = (p.jobs[j].defn.map Definition.shape).bind (fun s => s.2.2) := by
  rw [Part.workOf_eq_map]
  cases p.jobs[j].defn <;> rfl

theorem Definition.idleAt_eq {d d' : Definition} (h : d'.output = d.output) (o : OutId) (l : Level) :
    d'.idleAt o l = d.idleAt o l := by
  simp only [Definition.idleAt, h]

theorem Part.mayPlace_congr {p q : Part} {j : JobId} (hstate : q.jobs[j].state = p.jobs[j].state)
    (hshape : q.jobs[j].defn.map Definition.shape = p.jobs[j].defn.map Definition.shape) (purpose : Purpose) :
    q.MayPlace j purpose ↔ p.MayPlace j purpose := by
  simp only [Part.MayPlace, Part.purpose_eq, hstate, hshape]

/-! ### Reservations (R26) -/

theorem Part.reservationLaw_congr {p q : Part} (hstate : ∀ j : JobId, q.jobs[j].state.live = p.jobs[j].state.live)
    (hres : ∀ j : JobId, q.jobs[j].reservation = p.jobs[j].reservation)
    (hreports : q.reports.reservations = p.reports.reservations)
    (hroom : p.occupancy + p.reports.reservations ≤ 64 → q.occupancy + q.reports.reservations ≤ 64)
    (h : p.ReservationLaw) : q.ReservationLaw := by
  obtain ⟨h1, h2, h3⟩ := h
  refine ⟨fun j => by rw [hres, hstate, h1], ?_, hroom h3⟩
  rw [hreports, h2]
  exact congrArg (fun f => (List.finRange 32).countP f) (funext fun j => (hstate j).symm)

/-- One job fewer is live when one live job is so no longer. -/
theorem Part.liveJobs_set {p q : Part} {j : JobId} (hothers : ∀ k : JobId, k ≠ j → q.jobs[k].state.live = p.jobs[k].state.live)
    (hp : p.jobs[j].state.live = true) (hq : q.jobs[j].state.live = false) : q.liveJobs + 1 = p.liveJobs := by
  have hperm : (List.finRange 32).Perm (j :: (List.finRange 32).erase j) := List.perm_cons_erase (List.mem_finRange j)
  have hq' : q.liveJobs = (j :: (List.finRange 32).erase j).countP (fun k => q.jobs[k].state.live) := hperm.countP_eq _
  have hp' : p.liveJobs = (j :: (List.finRange 32).erase j).countP (fun k => p.jobs[k].state.live) := hperm.countP_eq _
  have hrest : ((List.finRange 32).erase j).countP (fun k => q.jobs[k].state.live) =
      ((List.finRange 32).erase j).countP (fun k => p.jobs[k].state.live) :=
    List.countP_congr fun k hk => by
      rw [hothers k ((List.nodup_finRange 32).mem_erase_iff.1 hk).1]
  rw [hq', hp', List.countP_cons, List.countP_cons, hrest, hp, hq]
  rfl

end Sys2Proof.Machine
end

section
/-! SUPPORT. Every move keeps the laws of reservations, queue, schedule, lines, cells and records, law by law. -/

namespace Sys2Proof.Machine

open Sys2Proof

/-! ### The records after a move -/

theorem Part.setState_jobs (p : Part) (j k : JobId) (st : JobState) :
    (p.setState j st).jobs[k] = if k = j then { p.jobs[j] with state := st } else p.jobs[k] :=
  p.setJob_jobs j k _

theorem Part.started_jobs (p : Part) (j k : JobId) (d : Definition) (cs : List CellId) (st : JobState) :
    ((p.grant j d cs).setState j st).jobs[k] =
      if k = j then { p.jobs[j] with
        state := st, run := p.jobs[j].run + 1#8, cells := cs, result := none, reservation := true,
        defn := some { d with entryTime := 0#48, work := d.work.fresh } }
      else p.jobs[k] := by
  rw [Part.setState_jobs, Part.grant_jobs, Part.grant_jobs]
  split <;> simp

/-- The definition of a fresh run looks to the laws as before. -/
theorem Definition.shape_fresh (d : Definition) :
    Definition.shape { d with entryTime := 0#48, work := d.work.fresh } = d.shape := by
  simp only [Definition.shape, d.work.fresh_needs]

theorem JobState.live_of_started {st : JobState} (h : st = .armed ∨ st = .running) : st.live = true := by
  rcases h with rfl | rfl <;> rfl

theorem JobState.not_live_of_idle {st : JobState} (h : st = .defined ∨ st = .ended) : st.live = false := by
  rcases h with rfl | rfl <;> rfl

theorem JobState.live_of_working {st : JobState} (h : st.working = true) : st.live = true := by
  cases st <;> simp_all [JobState.working, JobState.live]

theorem JobState.live_of_stages {st : JobState} (h : st.stages = true) : st.live = true := by
  cases st <;> simp_all [JobState.stages, JobState.live]

/-- A record that DEFINE or DELETE writes holds nothing and is not live. -/
theorem Job.redefined {b : Job} (h : b = Job.free ∨ ∃ d, b = Job.defined d) :
    b.state.live = false ∧ b.reservation = false ∧ b.cells = [] ∧ b.staged = none ∧ b.result = none ∧ b.lost = 0 ∧
      b.state ≠ .ended ∧ (b.defn.isSome = true ↔ b.state ≠ .free) := by
  rcases h with rfl | ⟨d, rfl⟩ <;> simp [Job.free, Job.defined, JobState.live]

/-- What an ending leaves of the ended job, as far as the laws go. -/
theorem Part.endSteps_record {p : Part} {j : JobId} {d : Definition} (cause : EndCause) (endTime : Time) (sample : Nat)
    (h : p.jobs[j].defn = some d) :
    ∃ r : Job, (p.endSteps j cause endTime sample).jobs[j] = r ∧ r.state = .ended ∧ r.defn.isSome = true ∧ r.cells = [] ∧
      r.staged = none ∧ r.result.isSome = true ∧ r.lost = 0 ∧ r.reservation = false :=
  ⟨_, Part.endSteps_jobs cause endTime sample h, rfl, rfl, rfl, rfl, rfl, rfl, rfl⟩

/-! ### Reservations (R26) -/

theorem Move.reservationLaw {p q : Part} (h : Move p q) (hp : p.ReservationLaw) : q.ReservationLaw := by
  cases h with
  | other jobs _ _ _ _ reports =>
    exact Part.reservationLaw_congr (fun j => by rw [jobs]) (fun j => by rw [jobs]) (by rw [reports])
      (fun h => by simpa only [Part.occupancy, reports] using h) hp
  | records v like =>
    exact Part.reservationLaw_congr (p := p) (fun j => congrArg JobState.live (like j).state) (fun j => (like j).reservation)
      rfl id hp
  | output => exact hp
  | cell => exact hp
  | lapse => exact hp
  | place => exact hp
  | edges => exact hp
  | reports r _ reservations room =>
    exact Part.reservationLaw_congr (p := p) (fun _ => rfl) (fun _ => rfl) reservations room hp
  | turn j st live live' =>
    refine Part.reservationLaw_congr (p := p) (fun k => ?_) (fun k => ?_) rfl id hp
    · rw [Part.setState_jobs]
      split
      · next h => rw [h, live]; exact live'
      · rfl
    · rw [Part.setState_jobs]
      split
      · next h => rw [h]
      · rfl
  | start j d cs st idle defn claim state =>
    obtain ⟨hres, hcount, hroom⟩ := hp
    have hothers : ∀ k : JobId, k ≠ j → ((p.grant j d cs).setState j st).jobs[k] = p.jobs[k] := fun k hk => by
      rw [Part.started_jobs, if_neg hk]
    have hself : (((p.grant j d cs).setState j st).jobs[j]).state = st := by rw [Part.started_jobs, if_pos rfl]
    have hlive : ((p.grant j d cs).setState j st).liveJobs = p.liveJobs + 1 :=
      (Part.liveJobs_set (fun k hk => by rw [hothers k hk]) (by rw [hself]; exact JobState.live_of_started state)
        (JobState.not_live_of_idle idle)).symm
    have hrep := Part.grant_reports p j d cs
    refine ⟨fun k => ?_, ?_, ?_⟩
    · by_cases hk : k = j
      · subst hk
        rw [hself, JobState.live_of_started state, Part.started_jobs, if_pos rfl]
      · rw [hothers k hk, hres]
    · rw [Part.setState_reports, hrep, hlive]
      exact congrArg (· + 1) hcount
    · have := of_decide_eq_true (Part.claim_granted claim).2.2.1
      simp only [Part.occupancy] at this hroom
      simp only [Part.occupancy, Part.setState_reports, hrep, List.length_map]
      omega
  | finish j cause endTime sample live =>
    cases hd : p.jobs[j].defn with
    | none => rwa [Part.endSteps_of_none hd]
    | some d =>
      obtain ⟨hres, hcount, hroom⟩ := hp
      obtain ⟨r, hr, hstate, -, -, -, -, -, hfree⟩ := Part.endSteps_record cause endTime sample hd
      have hothers : ∀ k : JobId, k ≠ j → (p.endSteps j cause endTime sample).jobs[k] = p.jobs[k] := fun k hk =>
        Part.endSteps_jobs_ne cause endTime sample hd hk
      have hlive : (p.endSteps j cause endTime sample).liveJobs + 1 = p.liveJobs :=
        Part.liveJobs_set (fun k hk => by rw [hothers k hk]) live (by rw [hr, hstate]; rfl)
      have hrep := Part.endSteps_reports cause endTime sample hd
      refine ⟨fun k => ?_, ?_, ?_⟩
      · by_cases hk : k = j
        · subst hk
          rw [hr, hstate, hfree]; rfl
        · rw [hothers k hk, hres]
      · rw [hrep]
        show p.reports.reservations - 1 = _
        omega
      · simp only [Part.occupancy, hrep, List.length_append, List.length_cons, List.length_nil] at hroom ⊢
        omega
  | redefine j b idle record =>
    obtain ⟨hnot, hfree, -⟩ := Job.redefined record
    have hj : p.jobs[j].reservation = false := by rw [hp.1, idle]
    refine Part.reservationLaw_congr (p := p) (fun k => ?_) (fun k => ?_) rfl id hp
    · by_cases hk : k = j
      · subst hk
        rw [idle, show (p.setJob k b).jobs[k] = b from p.setJob_jobs_self k b, hnot]
      · rw [show (p.setJob j b).jobs[k] = p.jobs[k] from p.setJob_jobs_ne b hk]
    · by_cases hk : k = j
      · subst hk
        rw [hj, show (p.setJob k b).jobs[k] = b from p.setJob_jobs_self k b, hfree]
      · rw [show (p.setJob j b).jobs[k] = p.jobs[k] from p.setJob_jobs_ne b hk]
  | reset orderly => exact orderly.1

/-! ### The report queue (R134, R138, R142) -/

theorem Move.queueLaw {p q : Part} (h : Move p q) (hp : p.QueueLaw) : q.QueueLaw := by
  rw [Part.queueLaw_iff] at *
  cases h with
  | other _ _ _ _ _ reports => rwa [reports]
  | records => exact hp
  | output => exact hp
  | cell => exact hp
  | lapse => exact hp
  | place => exact hp
  | edges => exact hp
  | reports r law => exact law hp
  | turn => exact hp
  | start j d cs =>
    rw [Part.setState_reports, Part.grant_reports]
    exact hp.map (f := fun e => if e.job = some j then { e with thisStart := false } else e) (fun e => by split <;> rfl)
      (fun e => by split <;> rfl) rfl rfl rfl rfl
  | finish j cause endTime sample =>
    cases hd : p.jobs[j].defn with
    | none => rwa [Part.endSteps_of_none hd]
    | some d =>
      rw [Part.endSteps_reports cause endTime sample hd]
      exact hp.admission rfl rfl rfl rfl rfl rfl
  | redefine => exact hp
  | reset orderly => exact orderly.2.1

/-! ### The schedule (R80, R81) -/

/-- Each entry is one its job may have, and no job has two. -/
theorem Part.scheduleLaw_iff (p : Part) : p.ScheduleLaw ↔
    p.schedule.Pairwise (fun a b => a.job ≠ b.job) ∧ ∀ e ∈ p.schedule, p.MayPlace e.job e.purpose := Iff.rfl

theorem insertEntry_perm (e : DeadlineEntry) (l : List DeadlineEntry) : (insertEntry e l).Perm (e :: l) := by
  induction l with
  | nil => exact List.Perm.refl _
  | cons x xs ih =>
    unfold insertEntry
    split
    · exact List.Perm.refl _
    · exact (ih.cons x).trans (List.Perm.swap e x xs)

/-- The laws of the entries stay when each job that has one keeps its state and its shape. -/
theorem Part.scheduleLaw_of_sublist {p q : Part} (hsub : q.schedule.Sublist p.schedule)
    (hmay : ∀ e ∈ q.schedule, p.MayPlace e.job e.purpose → q.MayPlace e.job e.purpose) (h : p.ScheduleLaw) :
    q.ScheduleLaw :=
  ⟨h.1.sublist hsub, fun e he => hmay e he (h.2 e (hsub.subset he))⟩

theorem Move.scheduleLaw {p q : Part} (h : Move p q) (hp : p.ScheduleLaw) : q.ScheduleLaw := by
  cases h with
  | other jobs _ _ schedule =>
    exact Part.scheduleLaw_of_sublist (by rw [schedule]) (fun e _ => (Part.mayPlace_congr (by rw [jobs]) (by rw [jobs]) _).2) hp
  | records v like =>
    exact Part.scheduleLaw_of_sublist (p := p) (List.Sublist.refl _)
      (fun e _ => (Part.mayPlace_congr (p := p) (like e.job).state (like e.job).shape _).2) hp
  | output => exact hp
  | cell => exact hp
  | lapse l sub => exact Part.scheduleLaw_of_sublist (p := p) sub (fun _ _ => id) hp
  | place j purpose due may =>
    rw [Part.scheduleLaw_iff, Part.place_schedule]
    have hperm := insertEntry_perm { due := due, job := j, purpose := purpose }
      (p.schedule.filter (fun e => decide (e.job ≠ j)))
    refine ⟨(hperm.pairwise_iff fun {a b} => Ne.symm).2 (List.pairwise_cons.2 ⟨fun e he => ?_, hp.1.filter _⟩),
      fun e he => ?_⟩
    · exact (of_decide_eq_true (List.mem_filter.1 he).2).symm
    · rcases List.mem_cons.1 (hperm.subset he) with rfl | he
      · refine may.elim id fun ⟨x, hx, hjob, hpurpose⟩ => ?_
        subst hjob hpurpose
        exact hp.2 x hx
      · exact hp.2 e (List.mem_filter.1 he).1
  | edges => exact hp
  | reports => exact hp
  | turn j st live live' staged entries =>
    refine Part.scheduleLaw_of_sublist (p := p) (List.Sublist.refl _) (fun e he hmay => ?_) hp
    by_cases hk : e.job = j
    · rcases entries with hworks | hnone
      · refine ⟨by rw [hk, Part.setState_jobs, if_pos rfl]; exact hworks, ?_⟩
        have hpurpose := hmay.2
        rw [Part.purpose_eq, hk] at hpurpose
        rw [Part.purpose_eq, hk, Part.setState_jobs, if_pos rfl]
        exact hpurpose
      · exact absurd hk (hnone e he)
    · have hsame : (p.setState j st).jobs[e.job] = p.jobs[e.job] := by rw [Part.setState_jobs, if_neg hk]
      exact (Part.mayPlace_congr (by rw [hsame]) (by rw [hsame]) _).2 hmay
  | start j d cs st idle defn claim state =>
    refine Part.scheduleLaw_of_sublist (p := p) (by simp) (fun e he hmay => ?_) hp
    have hk : e.job ≠ j := fun hk => by
      have := JobState.live_of_working hmay.1
      rw [hk, JobState.not_live_of_idle idle] at this
      cases this
    have hsame : ((p.grant j d cs).setState j st).jobs[e.job] = p.jobs[e.job] := by rw [Part.started_jobs, if_neg hk]
    exact (Part.mayPlace_congr (by rw [hsame]) (by rw [hsame]) _).2 hmay
  | finish j cause endTime sample live =>
    cases hd : p.jobs[j].defn with
    | none => rwa [Part.endSteps_of_none hd]
    | some d =>
      have hsched := Part.endSteps_schedule cause endTime sample hd
      refine Part.scheduleLaw_of_sublist (p := p) (by rw [hsched]; exact List.filter_sublist) (fun e he hmay => ?_) hp
      rw [hsched] at he
      have hk : e.job ≠ j := of_decide_eq_true (List.mem_filter.1 he).2
      have hsame := Part.endSteps_jobs_ne cause endTime sample hd hk
      exact (Part.mayPlace_congr (by rw [hsame]) (by rw [hsame]) _).2 hmay
  | redefine j b idle record =>
    refine Part.scheduleLaw_of_sublist (p := p) (List.Sublist.refl _) (fun e he hmay => ?_) hp
    have hk : e.job ≠ j := fun hk => by
      have := JobState.live_of_working hmay.1
      rw [hk, idle] at this
      cases this
    have hsame : (p.setJob j b).jobs[e.job] = p.jobs[e.job] := p.setJob_jobs_ne b hk
    exact (Part.mayPlace_congr (by rw [hsame]) (by rw [hsame]) _).2 hmay
  | reset orderly => exact orderly.2.2.1

/-! ### Records (R1, R3, R4, R36) -/

/-- What the record law says of one job. -/
def Job.Consistent (b : Job) : Prop :=
  (b.defn.isSome = true ↔ b.state ≠ .free) ∧ (b.result.isSome = true ↔ b.state = .ended) ∧
  (b.staged.isSome = true → b.state.stages = true) ∧ (b.lost ≤ 255 ∧ (b.state.live = false → b.lost = 0))

theorem Part.recordLaw_iff (p : Part) : p.RecordLaw ↔
    (∀ j : JobId, p.jobs[j].Consistent) ∧ ∀ d ∈ p.deliveries, p.jobs[d.job].state.live = true :=
  ⟨fun ⟨h1, h2, h3, h4, h5⟩ => ⟨fun j => ⟨h1 j, h2 j, h3 j, h4 j⟩, h5⟩,
    fun ⟨h, h5⟩ => ⟨fun j => (h j).1, fun j => (h j).2.1, fun j => (h j).2.2.1, fun j => (h j).2.2.2, h5⟩⟩

theorem Job.Like.isSome_defn {b b' : Job} (h : b.Like b') : b'.defn.isSome = b.defn.isSome := by
  have := congrArg Option.isSome h.shape
  simpa using this

theorem Job.Like.consistent {b b' : Job} (h : b.Like b') (hb : b.Consistent) : b'.Consistent := by
  obtain ⟨hdefn, hresult, hstaged, hlost⟩ := hb
  refine ⟨by rw [h.isSome_defn, h.state]; exact hdefn, by rw [h.result, h.state]; exact hresult, fun hs => ?_, ?_⟩
  · rw [h.state]
    exact (h.staged hs).elim hstaged id
  · rw [h.state]
    exact h.lost hlost

/-- Only records of one job change, and no edge is new to it. -/
theorem Part.recordLaw_of_job {p q : Part} (j : JobId) (hothers : ∀ k : JobId, k ≠ j → q.jobs[k] = p.jobs[k])
    (hself : q.jobs[j].Consistent)
    (hedges : ∀ d ∈ q.deliveries, d ∈ p.deliveries ∧ (d.job = j → q.jobs[j].state.live = true)) (h : p.RecordLaw) :
    q.RecordLaw := by
  rw [Part.recordLaw_iff] at *
  refine ⟨fun k => ?_, fun d hd => ?_⟩
  · by_cases hk : k = j
    · exact hk ▸ hself
    · rw [hothers k hk]; exact h.1 k
  · by_cases hk : d.job = j
    · simpa only [hk] using (hedges d hd).2 hk
    · rw [hothers _ hk]; exact h.2 d (hedges d hd).1

theorem JobState.live_ne {st : JobState} (h : st.live = true) : st ≠ .free ∧ st ≠ .ended ∧ st ≠ .defined := by
  cases st <;> simp_all [JobState.live]

theorem Move.recordLaw {p q : Part} (h : Move p q) (hp : p.RecordLaw) : q.RecordLaw := by
  cases h with
  | other jobs _ _ _ deliveries =>
    rw [Part.recordLaw_iff] at *
    rwa [jobs, deliveries]
  | records v like =>
    rw [Part.recordLaw_iff] at *
    exact ⟨fun j => (like j).consistent (hp.1 j), fun d hd => ((like d.job).state ▸ hp.2 d hd :)⟩
  | output => exact hp
  | cell => exact hp
  | lapse => exact hp
  | place => exact hp
  | edges l live =>
    rw [Part.recordLaw_iff] at *
    exact ⟨hp.1, fun d hd => (live d hd).elim (hp.2 d) id⟩
  | reports => exact hp
  | turn j st live live' staged =>
    have hj := ((Part.recordLaw_iff p).1 hp).1 j
    obtain ⟨hdefn, hresult, hstaged, hlost⟩ := hj
    obtain ⟨hfree, hended, -⟩ := JobState.live_ne live
    obtain ⟨hfree', hended', -⟩ := JobState.live_ne live'
    have hself : (p.setState j st).jobs[j] = { p.jobs[j] with state := st } := p.setState_jobs_self j st
    refine Part.recordLaw_of_job (p := p) j (fun k hk => p.setState_jobs_ne st hk) ?_
      (fun d hd => ⟨hd, fun _ => by rw [hself]; exact live'⟩) hp
    rw [hself]
    refine ⟨?_, ?_, staged, hlost.1, ?_⟩
    · exact iff_of_true (hdefn.2 hfree) hfree'
    · exact iff_of_false (fun h => hended (hresult.1 h)) hended'
    · intro hdead
      rw [show st.live = false from hdead] at live'
      cases live'
  | start j d cs st idle defn claim state =>
    obtain ⟨-, -, hstaged, hlost⟩ := ((Part.recordLaw_iff p).1 hp).1 j
    have hnot := JobState.not_live_of_idle idle
    obtain ⟨hfree', hended', -⟩ := JobState.live_ne (JobState.live_of_started state)
    have hself := Part.started_jobs p j j d cs st
    rw [if_pos rfl] at hself
    refine Part.recordLaw_of_job (p := p) j (fun k hk => by rw [Part.started_jobs, if_neg hk]) ?_
      (fun d hd => ⟨by simpa using hd, fun _ => by rw [hself]; exact JobState.live_of_started state⟩) hp
    rw [hself]
    refine ⟨iff_of_true rfl hfree', iff_of_false (by simp) hended', fun hs => ?_, hlost.1, fun _ => hlost.2 hnot⟩
    have := JobState.live_of_stages (hstaged hs)
    rw [hnot] at this
    cases this
  | finish j cause endTime sample live =>
    cases hd : p.jobs[j].defn with
    | none => rwa [Part.endSteps_of_none hd]
    | some d =>
      obtain ⟨r, hr, hstate, hdefn, -, hstaged, hresult, hlost, -⟩ := Part.endSteps_record cause endTime sample hd
      refine Part.recordLaw_of_job (p := p) j (fun k hk => Part.endSteps_jobs_ne cause endTime sample hd hk) ?_ ?_ hp
      · rw [hr]
        simp [Job.Consistent, hstate, hdefn, hstaged, hresult, hlost]
      · intro x hx
        rw [Part.endSteps_deliveries cause endTime sample hd] at hx
        obtain ⟨hx, hne⟩ := List.mem_filter.1 hx
        exact ⟨hx, fun hk => absurd hk (of_decide_eq_true hne)⟩
  | redefine j b idle record =>
    obtain ⟨-, -, -, hstaged, hresult, hlost, hended, hdefn⟩ := Job.redefined record
    have hself : (p.setJob j b).jobs[j] = b := p.setJob_jobs_self j b
    refine Part.recordLaw_of_job (p := p) j (fun k hk => p.setJob_jobs_ne b hk) ?_ (fun x hx => ⟨hx, fun hk => ?_⟩) hp
    · rw [hself]
      simp [Job.Consistent, hdefn, hstaged, hresult, hlost, hended]
    · have := ((Part.recordLaw_iff p).1 hp).2 x hx
      simp only [hk, idle] at this
      cases this
  | reset orderly => exact orderly.2.2.2.2.2

end Sys2Proof.Machine
end

section
/-! SUPPORT. Every move keeps the laws of the output lines and of the cells. -/

namespace Sys2Proof.Machine

open Sys2Proof

/-! ### Output lines (R39) -/

theorem Job.names_iff {b : Job} {o : OutId} :
    b.names o = true ↔ ∃ d u, b.defn = some d ∧ d.output = some u ∧ u.line = o := by
  unfold Job.names
  constructor
  · intro h
    split at h
    · cases h
    · rename_i d hd
      split at h
      · cases h
      · rename_i u hu
        exact ⟨d, u, hd, hu, of_decide_eq_true h⟩
  · rintro ⟨d, u, hd, hu, ho⟩
    simp only [hd, hu, ho, decide_true]

theorem Definition.idleAt_iff {d : Definition} {o : OutId} {l : Level} :
    d.idleAt o l = true ↔ ∀ u, d.output = some u → u.line = o → l = u.idle := by
  unfold Definition.idleAt
  split
  · next h => simp [h]
  · next u h => by_cases ho : u.line = o <;> simp [h, ho]

/-- A line is at the idle level of each ARMED or HELD job that owns it. -/
def Part.IdleKept (p : Part) (o : OutId) (j : JobId) : Prop :=
  p.jobs[j].state = .armed ∨ p.jobs[j].state = .held →
    ∀ d, p.jobs[j].defn = some d → d.idleAt o p.outputs[o].level = true

theorem Part.outputLaw_iff (p : Part) : p.OutputLaw ↔
    (∀ (o : OutId) (j : JobId), p.outputs[o].owner = some j ↔ p.jobs[j].state.live = true ∧ p.jobs[j].names o = true) ∧
    ∀ (o : OutId) (j : JobId), p.IdleKept o j := Iff.rfl

theorem JobState.live_of_resting {st : JobState} (h : st = .armed ∨ st = .held) : st.live = true ∧ st.working = false := by
  rcases h with rfl | rfl <;> exact ⟨rfl, rfl⟩

/-- A line that a definition does not name is at its idle level in any case; so only its own line matters to a job. -/
theorem Part.idleKept_of_owner {p : Part} {o : OutId} {j : JobId}
    (howner : p.jobs[j].state.live = true → p.jobs[j].names o = true → p.outputs[o].owner = some j)
    (h : p.outputs[o].owner = some j → p.IdleKept o j) : p.IdleKept o j := by
  intro hst d hd
  by_cases hn : p.jobs[j].names o = true
  · exact h (howner (JobState.live_of_resting hst).1 hn) hst d hd
  · refine Definition.idleAt_iff.2 fun u hu ho => absurd (Job.names_iff.2 ⟨d, u, hd, hu, ho⟩) hn

theorem Part.idleKept_congr {p q : Part} {o : OutId} {j : JobId} (hstate : q.jobs[j].state = p.jobs[j].state)
    (hshape : q.jobs[j].defn.map Definition.shape = p.jobs[j].defn.map Definition.shape)
    (hlevel : q.outputs[o].level = p.outputs[o].level) (h : p.IdleKept o j) : q.IdleKept o j := by
  intro hst d hd
  rw [hstate] at hst
  rw [hd] at hshape
  obtain ⟨d', hd', heq⟩ := Option.map_eq_some_iff.1 hshape.symm
  rw [hlevel, ← Definition.idleAt_eq (congrArg Prod.fst heq)]
  exact h hst d' hd'

/-- What nobody or job `j` owns, no other job does. -/
theorem ne_some_of_ne {owner : Option JobId} {j k : JobId} (h : owner = none ∨ owner = some j) (hk : k ≠ j) :
    owner ≠ some k := by
  rcases h with rfl | rfl
  · exact fun h => by cases h
  · exact fun h => hk (Option.some.inj h).symm

theorem Part.ownedOutput_of_owner {p : Part} {j : JobId} {d : Definition} {u : OutputUse} {o : OutId}
    (hd : p.jobs[j].defn = some d) (hu : d.output = some u) (hl : u.line = o) (h : p.outputs[o].owner = some j) :
    p.ownedOutput j = some u := by
  subst hl
  exact Part.ownedOutput_eq_some.2 ⟨d, hd, hu, h⟩

/-- Only one job and the lines it owned or owns change. -/
theorem Part.outputLaw_of_job {p q : Part} (j : JobId) (hothers : ∀ k : JobId, k ≠ j → q.jobs[k] = p.jobs[k])
    (hlines : ∀ o : OutId, q.outputs[o] = p.outputs[o] ∨
      ((p.outputs[o].owner = none ∨ p.outputs[o].owner = some j) ∧ (q.outputs[o].owner = none ∨ q.outputs[o].owner = some j)))
    (howns : ∀ o : OutId, q.outputs[o].owner = some j ↔ q.jobs[j].state.live = true ∧ q.jobs[j].names o = true)
    (hidle : ∀ o : OutId, q.outputs[o].owner = some j → q.IdleKept o j) (h : p.OutputLaw) : q.OutputLaw := by
  rw [Part.outputLaw_iff] at *
  obtain ⟨hown, hkept⟩ := h
  have hrest : ∀ (o : OutId) (k : JobId), k ≠ j → (q.outputs[o].owner = some k ↔ p.outputs[o].owner = some k) := by
    intro o k hk
    rcases hlines o with heq | ⟨hp, hq⟩
    · rw [heq]
    · exact iff_of_false (ne_some_of_ne hq hk) (ne_some_of_ne hp hk)
  refine ⟨fun o k => ?_, fun o k => ?_⟩
  · by_cases hk : k = j
    · exact hk ▸ howns o
    · rw [hrest o k hk, hothers k hk]; exact hown o k
  · by_cases hk : k = j
    · subst hk
      exact Part.idleKept_of_owner (fun hl hn => (howns o).2 ⟨hl, hn⟩) (hidle o)
    · refine Part.idleKept_of_owner (fun hl hn => ?_) fun ho => ?_
      · rw [hrest o k hk]
        rw [hothers k hk] at hl hn
        exact (hown o k).2 ⟨hl, hn⟩
      · refine Part.idleKept_congr (by rw [hothers k hk]) (by rw [hothers k hk]) ?_ (hkept o k)
        rcases hlines o with heq | ⟨-, hq⟩
        · rw [heq]
        · exact absurd ho (ne_some_of_ne hq hk)

theorem Move.outputLaw {p q : Part} (h : Move p q) (hp : p.OutputLaw) : q.OutputLaw := by
  cases h with
  | other jobs outputs =>
    rw [Part.outputLaw_iff] at *
    exact ⟨fun o j => by rw [jobs, outputs]; exact hp.1 o j,
      fun o j => Part.idleKept_congr (by rw [jobs]) (by rw [jobs]) (by rw [outputs]) (hp.2 o j)⟩
  | records v like =>
    rw [Part.outputLaw_iff] at *
    refine ⟨fun o j => ?_, fun o j =>
      Part.idleKept_congr (p := p) (like j).state (like j).shape rfl (hp.2 o j)⟩
    show _ ↔ v[j].state.live = true ∧ v[j].names o = true
    rw [(like j).state, Job.names_eq (like j).shape]
    exact hp.1 o j
  | output o l owner free =>
    rw [Part.outputLaw_iff] at *
    have howner : ∀ o' : OutId, (p.setOutput o l).outputs[o'].owner = p.outputs[o'].owner := by
      intro o'
      rw [show (p.setOutput o l).outputs[o'] = _ from p.setOutput_outputs o o' l]
      split
      · next h => rw [owner, h]
      · rfl
    refine ⟨fun o' j => by rw [howner]; exact hp.1 o' j, fun o' j => ?_⟩
    by_cases ho : o' = o
    · subst ho
      intro hst
      have hrest := JobState.live_of_resting hst
      refine Part.idleKept_of_owner (fun hl hn => by rw [howner]; exact (hp.1 o' j).2 ⟨hl, hn⟩) (fun hown => ?_) hst
      have := free j (by rw [owner, ← howner]; exact hown)
      rw [show p.jobs[j].state.working = false from hrest.2] at this
      cases this
    · exact Part.idleKept_congr (p := p) rfl rfl
        (by rw [show (p.setOutput o l).outputs[o'] = p.outputs[o'] from p.setOutput_outputs_ne l ho]) (hp.2 o' j)
  | cell => exact hp
  | lapse => exact hp
  | place => exact hp
  | edges => exact hp
  | reports => exact hp
  | turn j st live live' staged entries idle =>
    have hself : (p.setState j st).jobs[j] = { p.jobs[j] with state := st } := p.setState_jobs_self j st
    refine Part.outputLaw_of_job (p := p) j (fun k hk => p.setState_jobs_ne st hk) (fun o => .inl rfl) (fun o => ?_)
      (fun o ho hst d hd => ?_) hp
    · rw [hself]
      refine (hp.1 o j).trans ?_
      simp only [live, live']
      rfl
    · rw [hself] at hst hd
      exact idle hst d o hd ho
  | start j d cs st hidle defn claim state =>
    obtain ⟨hown, hkept⟩ := hp
    have hnone : ∀ o : OutId, p.outputs[o].owner ≠ some j := fun o ho => by
      have := ((hown o j).1 ho).1
      rw [JobState.not_live_of_idle hidle] at this
      cases this
    have hself := Part.started_jobs p j j d cs st
    rw [if_pos rfl] at hself
    have hout : ∀ o : OutId, ((p.grant j d cs).setState j st).outputs[o] = (match d.output with
        | none => p.outputs[o]
        | some u => if o = u.line then { level := u.idle, owner := some j } else p.outputs[o]) :=
      fun o => (congrArg (fun v : Vector OutputLine 8 => v[o]) (Part.setState_outputs _ j st)).trans (Part.grant_outputs p j d cs o)
    have hfree : ∀ u, d.output = some u → p.outputs[u.line].owner = none := fun u hu => by
      cases hk : p.outputs[u.line].owner with
      | none => rfl
      | some k =>
        have := Part.lineHolder_none (Part.claim_granted claim).1 hu hk
        subst this
        exact absurd hk (hnone _)
    refine Part.outputLaw_of_job (p := p) j (fun k hk => by rw [Part.started_jobs, if_neg hk]) (fun o => ?_) (fun o => ?_)
      (fun o ho => ?_) ⟨hown, hkept⟩
    · rw [hout]
      cases hu : d.output with
      | none => exact .inl rfl
      | some u =>
        by_cases ho : o = u.line
        · subst ho
          exact .inr ⟨.inl (hfree u hu), .inr (by simp)⟩
        · exact .inl (by simp [ho])
    · have hnames : ((p.grant j d cs).setState j st).jobs[j].names o = true ↔ ∃ u, d.output = some u ∧ u.line = o := by
        rw [hself, Job.names_iff]
        exact ⟨fun ⟨_, u, hd', hu, hl⟩ => by cases hd'; exact ⟨u, hu, hl⟩, fun ⟨u, hu, hl⟩ => ⟨_, u, rfl, hu, hl⟩⟩
      rw [hnames, hself, hout]
      simp only [JobState.live_of_started state, true_and]
      cases d.output with
      | none => exact iff_of_false (hnone o) (by rintro ⟨u, hu, -⟩; cases hu)
      | some u =>
        by_cases ho : o = u.line
        · exact iff_of_true (by simp [ho]) ⟨u, rfl, ho.symm⟩
        · exact iff_of_false (by simpa [ho] using hnone o) fun ⟨u', hu', hl⟩ => by cases hu'; exact ho hl.symm
    · intro _ d' hd'
      rw [hself] at hd'
      obtain rfl : _ = d' := Option.some.inj hd'
      refine Definition.idleAt_iff.2 fun u hu hl => ?_
      rw [hout, show d.output = some u from hu]
      simp [hl]
  | finish j cause endTime sample live =>
    cases hd : p.jobs[j].defn with
    | none => rwa [Part.endSteps_of_none hd]
    | some d =>
      obtain ⟨hown, hkept⟩ := hp
      obtain ⟨r, hr, hstate, -⟩ := Part.endSteps_record cause endTime sample hd
      have hout := fun o : OutId => Part.endSteps_outputs cause endTime sample hd o
      have hgone : ∀ o : OutId, (p.endSteps j cause endTime sample).outputs[o].owner ≠ some j := by
        intro o ho
        rw [hout] at ho
        cases hu : p.ownedOutput j with
        | none =>
          rw [hu] at ho
          obtain ⟨d', u, hd', hu', hl⟩ := Job.names_iff.1 ((hown o j).1 ho).2
          have := Part.ownedOutput_of_owner hd' hu' hl ho
          rw [hu] at this
          cases this
        | some u =>
          rw [hu] at ho
          by_cases hl : o = u.line
          · simp [hl] at ho
          · have ho : p.outputs[o].owner = some j := by simpa [hl] using ho
            obtain ⟨d', u', hd', hu', hl'⟩ := Job.names_iff.1 ((hown o j).1 ho).2
            have := Part.ownedOutput_of_owner hd' hu' hl' ho
            rw [hu] at this
            cases this
            exact hl hl'.symm
      refine Part.outputLaw_of_job (p := p) j (fun k hk => Part.endSteps_jobs_ne cause endTime sample hd hk) (fun o => ?_)
        (fun o => iff_of_false (hgone o) (by rw [hr, hstate]; simp [JobState.live])) (fun o ho => absurd ho (hgone o))
        ⟨hown, hkept⟩
      rw [hout]
      cases hu : p.ownedOutput j with
      | none => exact .inl rfl
      | some u =>
        by_cases hl : o = u.line
        · subst hl
          obtain ⟨-, -, -, howned⟩ := Part.ownedOutput_eq_some.1 hu
          exact .inr ⟨.inr howned, .inl (by simp)⟩
        · exact .inl (by simp [hl])
  | redefine j b idle record =>
    obtain ⟨hnot, -⟩ := Job.redefined record
    have hself : (p.setJob j b).jobs[j] = b := p.setJob_jobs_self j b
    have hgone : ∀ o : OutId, p.outputs[o].owner ≠ some j := fun o ho => by
      have := ((hp.1 o j).1 ho).1
      rw [idle] at this
      cases this
    exact Part.outputLaw_of_job (p := p) j (fun k hk => p.setJob_jobs_ne b hk) (fun o => .inl rfl)
      (fun o => iff_of_false (hgone o) (by rw [hself, hnot]; simp)) (fun o ho => absurd ho (hgone o)) hp
  | reset orderly => exact orderly.2.2.2.1

/-! ### Cells (R23) -/

/-- What the cell law says of one job's own record. -/
def Job.HoldsCells (b : Job) : Prop :=
  (b.state.live = true → (b.defn.map Definition.shape).map (fun s => s.2.1) = some b.cells.length) ∧
  (b.state.live = false → b.cells = []) ∧ b.cells.Nodup

theorem Part.cellLaw_iff (p : Part) : p.CellLaw ↔
    (∀ j : JobId, p.jobs[j].HoldsCells) ∧
    (∀ (c : CellId) (j : JobId), p.cells[c].owner = some j ↔ c ∈ p.jobs[j].cells) ∧
    ∀ c : CellId, p.cells[c].owner = none → p.cells[c] = Cell.free := by
  simp only [Part.CellLaw, Part.needs_eq, Job.HoldsCells]
  exact ⟨fun ⟨h1, h2, h3, h4, h5⟩ => ⟨fun j => ⟨h1 j, h2 j, h3 j⟩, h4, h5⟩,
    fun ⟨h, h4, h5⟩ => ⟨fun j => (h j).1, fun j => (h j).2.1, fun j => (h j).2.2, h4, h5⟩⟩

theorem Job.holdsCells_congr {b b' : Job} (hlive : b'.state.live = b.state.live)
    (hshape : b'.defn.map Definition.shape = b.defn.map Definition.shape) (hcells : b'.cells = b.cells)
    (h : b.HoldsCells) : b'.HoldsCells := by
  simpa only [Job.HoldsCells, hlive, hshape, hcells] using h

/-- Only one job's record changes, with the cells that it held or holds. -/
theorem Part.cellLaw_of_job {p q : Part} (j : JobId) (hothers : ∀ k : JobId, k ≠ j → q.jobs[k] = p.jobs[k])
    (hself : q.jobs[j].HoldsCells)
    (hcells : ∀ c : CellId, q.cells[c] = p.cells[c] ∨ ((p.cells[c].owner = none ∨ p.cells[c].owner = some j) ∧
      (q.cells[c] = Cell.free ∨ q.cells[c].owner = some j)))
    (howns : ∀ c : CellId, q.cells[c].owner = some j ↔ c ∈ q.jobs[j].cells) (h : p.CellLaw) : q.CellLaw := by
  rw [Part.cellLaw_iff] at *
  obtain ⟨hrec, hown, hfree⟩ := h
  refine ⟨fun k => ?_, fun c k => ?_, fun c hc => ?_⟩
  · by_cases hk : k = j
    · exact hk ▸ hself
    · rw [hothers k hk]; exact hrec k
  · by_cases hk : k = j
    · exact hk ▸ howns c
    · rw [hothers k hk, ← hown c k]
      rcases hcells c with heq | ⟨hp, hq⟩
      · rw [heq]
      · exact iff_of_false (ne_some_of_ne (hq.imp_left fun h => by rw [h]; rfl) hk) (ne_some_of_ne hp hk)
  · rcases hcells c with heq | ⟨-, hq⟩
    · rw [heq] at hc ⊢; exact hfree c hc
    · rcases hq with h | h
      · exact h
      · rw [h] at hc; cases hc

theorem Move.cellLaw {p q : Part} (h : Move p q) (hp : p.CellLaw) : q.CellLaw := by
  cases h with
  | other jobs _ cells =>
    rw [Part.cellLaw_iff] at *
    simpa only [jobs, cells] using hp
  | records v like =>
    rw [Part.cellLaw_iff] at *
    refine ⟨fun j => Job.holdsCells_congr (congrArg _ (like j).state) (like j).shape (like j).cells (hp.1 j),
      fun c j => ?_, hp.2.2⟩
    show _ ↔ c ∈ v[j].cells
    rw [(like j).cells]
    exact hp.2.1 c j
  | output => exact hp
  | cell c x owner held =>
    obtain ⟨j, hj⟩ := held
    rw [Part.cellLaw_iff] at *
    have hset : ∀ k : CellId, (p.setCell c x).cells[k] = if k = c then x else p.cells[k] := fun k => p.setCell_cells c k x
    have howner : ∀ k : CellId, (p.setCell c x).cells[k].owner = p.cells[k].owner := by
      intro k
      rw [hset]
      split
      · next h => rw [owner, h]
      · rfl
    refine ⟨hp.1, fun k i => by rw [howner]; exact hp.2.1 k i, fun k hk => ?_⟩
    have hne : k ≠ c := by
      rintro rfl
      rw [howner, (hp.2.1 k j).2 hj] at hk
      cases hk
    rw [howner] at hk
    rw [hset, if_neg hne]
    exact hp.2.2 k hk
  | lapse => exact hp
  | place => exact hp
  | edges => exact hp
  | reports => exact hp
  | turn j st live live' =>
    have hrec := ((Part.cellLaw_iff p).1 hp).1 j
    have hself : (p.setState j st).jobs[j] = { p.jobs[j] with state := st } := p.setState_jobs_self j st
    refine Part.cellLaw_of_job (p := p) j (fun k hk => p.setState_jobs_ne st hk) ?_ (fun c => .inl rfl) (fun c => ?_) hp
    · rw [hself]
      exact Job.holdsCells_congr (live'.trans live.symm) rfl rfl hrec
    · rw [hself]
      exact ((Part.cellLaw_iff p).1 hp).2.1 c j
  | start j d cs st idle defn claim state =>
    obtain ⟨hrec, hown, -⟩ := (Part.cellLaw_iff p).1 hp
    obtain ⟨hnodup, hlen, hfree⟩ := Part.claim_cells claim
    have hself := Part.started_jobs p j j d cs st
    rw [if_pos rfl] at hself
    have hset : ∀ c : CellId, ((p.grant j d cs).setState j st).cells[c] =
        if c ∈ cs then { owner := some j, count := 0#16, phase := none } else p.cells[c] :=
      fun c => (congrArg (fun v : Vector Cell 24 => v[c]) (Part.setState_cells _ j st)).trans (Part.grant_cells p j d cs c)
    refine Part.cellLaw_of_job (p := p) j (fun k hk => by rw [Part.started_jobs, if_neg hk]) ?_ (fun c => ?_) (fun c => ?_) hp
    · rw [hself]
      refine ⟨fun _ => ?_, fun hdead => ?_, hnodup⟩
      · simp only [Option.map_some, Definition.shape_fresh, hlen]
        rfl
      · exact absurd ((JobState.live_of_started state).symm.trans hdead) (by simp)
    · rw [hset]
      by_cases hc : c ∈ cs
      · exact .inr ⟨.inl (hfree c hc), .inr (by simp [hc])⟩
      · exact .inl (by simp [hc])
    · rw [hset, hself]
      by_cases hc : c ∈ cs
      · simp [hc]
      · simp only [hc, if_false, iff_false]
        rw [hown c j, (hrec j).2.1 (JobState.not_live_of_idle idle)]
        exact List.not_mem_nil
  | finish j cause endTime sample live =>
    cases hd : p.jobs[j].defn with
    | none => rwa [Part.endSteps_of_none hd]
    | some d =>
      obtain ⟨r, hr, hstate, -, hcells, -⟩ := Part.endSteps_record cause endTime sample hd
      have hset := fun c : CellId => Part.endSteps_cells cause endTime sample hd c
      refine Part.cellLaw_of_job (p := p) j (fun k hk => Part.endSteps_jobs_ne cause endTime sample hd hk) ?_ (fun c => ?_)
        (fun c => ?_) hp
      · rw [hr]
        simp [Job.HoldsCells, hstate, hcells, JobState.live]
      · rw [hset]
        by_cases ho : p.cells[c].owner = some j
        · exact .inr ⟨.inr ho, .inl (if_pos ho)⟩
        · exact .inl (if_neg ho)
      · rw [hset, hr, hcells]
        by_cases ho : p.cells[c].owner = some j
        · rw [if_pos ho]
          simp [Cell.free]
        · rw [if_neg ho]
          exact iff_of_false ho List.not_mem_nil
  | redefine j b idle record =>
    obtain ⟨hrec, hown, -⟩ := (Part.cellLaw_iff p).1 hp
    obtain ⟨hnot, -, hcells, -⟩ := Job.redefined record
    have hself : (p.setJob j b).jobs[j] = b := p.setJob_jobs_self j b
    refine Part.cellLaw_of_job (p := p) j (fun k hk => p.setJob_jobs_ne b hk) ?_ (fun c => .inl rfl) (fun c => ?_) hp
    · rw [hself]
      simp [Job.HoldsCells, hnot, hcells]
    · rw [hself, hcells, ← (hrec j).2.1 idle]
      exact hown c j
  | reset orderly => exact orderly.2.2.2.2.1

/-! ### All laws together -/

theorem Moves.keep {L : Part → Prop} (hmove : ∀ {p q : Part}, Move p q → L p → L q) {p q : Part} (h : Moves p q) (hp : L p) :
    L q := by
  induction h with
  | refl => exact hp
  | tail _ hlast ih => exact hmove hlast ih

theorem Move.orderly {p q : Part} (h : Move p q) (hp : p.Orderly) : q.Orderly := by
  obtain ⟨hres, hqueue, hsched, hout, hcell, hrec⟩ := hp
  exact ⟨h.reservationLaw hres, h.queueLaw hqueue, h.scheduleLaw hsched, h.outputLaw hout, h.cellLaw hcell, h.recordLaw hrec⟩

end Sys2Proof.Machine
end

section
/-! SUPPORT. The operations on a job that stays in its state, as moves. -/

namespace Sys2Proof.Machine

open Sys2Proof

/-- `q` comes from `p` by moves that leave the state of job `j` and the shape of its definition. -/
structure Steady (j : JobId) (p q : Part) : Prop where
  moves : Moves p q
  state : q.jobs[j].state = p.jobs[j].state
  shape : q.jobs[j].defn.map Definition.shape = p.jobs[j].defn.map Definition.shape

/-- A work that needs the cells and places the entries of the job's own. -/
def Part.Fits (p : Part) (j : JobId) (w : Work) : Prop :=
  ∀ d, p.jobs[j].defn = some d → w.cellsNeeded = d.work.cellsNeeded ∧ w.purpose = d.work.purpose

section
variable {j : JobId} {p q r : Part}

theorem Steady.refl : Steady j p p := ⟨.refl, rfl, rfl⟩

theorem Steady.trans (h : Steady j p q) (h' : Steady j q r) : Steady j p r :=
  ⟨h.moves.trans h'.moves, h'.state.trans h.state, h'.shape.trans h.shape⟩

theorem Steady.of_move (h : Move p q) (jobs : q.jobs = p.jobs) : Steady j p q :=
  ⟨.single h, by rw [jobs], by rw [jobs]⟩

theorem Steady.fits (h : Steady j p q) {w : Work} (hw : p.Fits j w) : q.Fits j w := by
  intro d hd
  have hshape := h.shape
  rw [hd] at hshape
  obtain ⟨d', hd', heq⟩ := Option.map_eq_some_iff.1 hshape.symm
  simp only [Definition.shape, Prod.mk.injEq] at heq
  obtain ⟨-, hcells, hpurpose⟩ := heq
  exact ⟨(hw d' hd').1.trans hcells, (hw d' hd').2.trans hpurpose⟩

theorem Steady.mayPlace (h : Steady j p q) {purpose : Purpose} (hp : p.MayPlace j purpose) : q.MayPlace j purpose :=
  (Part.mayPlace_congr h.state h.shape purpose).2 hp

theorem Steady.working (h : Steady j p q) (hp : p.jobs[j].state.working = true) : q.jobs[j].state.working = true :=
  h.state ▸ hp

theorem Steady.live (h : Steady j p q) (hp : p.jobs[j].state.live = true) : q.jobs[j].state.live = true :=
  h.state ▸ hp

theorem Part.fits_of_workOf {w w' : Work} (h : p.workOf j = some w) (hcells : w'.cellsNeeded = w.cellsNeeded)
    (hpurpose : w'.purpose = w.purpose) : p.Fits j w' := by
  intro d hd
  rw [Part.workOf_some hd, Option.some.injEq] at h
  subst h
  exact ⟨hcells, hpurpose⟩

theorem Part.mayPlace_of_workOf {w : Work} {purpose : Purpose} (hworks : p.jobs[j].state.working = true)
    (h : p.workOf j = some w) (hpurpose : w.purpose = some purpose) : p.MayPlace j purpose :=
  ⟨hworks, by rw [h]; exact hpurpose⟩

/-! ### Job records -/

theorem Steady.setJob {b : Job} (h : p.jobs[j].Like b) : Steady j p (p.setJob j b) := by
  have hset : ∀ k : JobId, (p.setJob j b).jobs[k] = if k = j then b else p.jobs[k] := fun k => p.setJob_jobs j k b
  refine ⟨.single (.records (p := p) (p.setJob j b).jobs fun k => ?_), ?_, ?_⟩
  · rw [hset]
    split
    · next hk => exact hk ▸ h
    · exact Job.Like.refl
  · rw [hset, if_pos rfl]; exact h.state
  · rw [hset, if_pos rfl]; exact h.shape

theorem Steady.setWork {w : Work} (h : p.Fits j w) : Steady j p (p.setWork j w) := by
  refine Steady.setJob ⟨rfl, ?_, rfl, rfl, rfl, .inl, id⟩
  cases hd : p.jobs[j].defn with
  | none => rfl
  | some d =>
    obtain ⟨hcells, hpurpose⟩ := h d hd
    simp only [Option.map_some, Definition.shape, hcells, hpurpose]

theorem Steady.setStaged_none : Steady j p (p.setStaged j none) :=
  Steady.setJob ⟨rfl, rfl, rfl, rfl, rfl, (fun h => nomatch h), id⟩

theorem Steady.setStaged (staged : Option Staged) (h : p.jobs[j].state.stages = true) :
    Steady j p (p.setStaged j staged) :=
  Steady.setJob ⟨rfl, rfl, rfl, rfl, rfl, fun _ => .inr h, id⟩

theorem Steady.setLost {lost : Nat} (h : p.jobs[j].lost ≤ 255 → lost ≤ 255)
    (hlive : p.jobs[j].state.live = true ∨ lost = 0) : Steady j p (p.setLost j lost) := by
  refine Steady.setJob ⟨rfl, rfl, rfl, rfl, rfl, .inl, fun hl => ⟨h hl.1, fun hdead => ?_⟩⟩
  rcases hlive with hlive | rfl
  · rw [hlive] at hdead; cases hdead
  · rfl

/-! ### Lines and cells -/

/-- The line that a working job owns may take any level. -/
theorem Steady.setOutput {o : OutId} {l : OutputLine} (howner : l.owner = p.outputs[o].owner)
    (hself : p.outputs[o].owner = some j) (h : p.jobs[j].state.working = true) : Steady j p (p.setOutput o l) :=
  .of_move (.output o l howner fun k hk => by
    rw [howner, hself] at hk
    cases hk
    exact h) rfl

theorem Steady.driveIdle (h : p.jobs[j].state.working = true) : Steady j p (p.driveIdle j) := by
  unfold Part.driveIdle
  split
  · exact .refl
  · next u hu =>
    obtain ⟨-, -, -, howner⟩ := Part.ownedOutput_eq_some.1 hu
    exact .setOutput rfl howner h

theorem Steady.driveActive (h : p.jobs[j].state.working = true) : Steady j p (p.driveActive j) := by
  unfold Part.driveActive
  split
  · exact .refl
  · next u hu =>
    obtain ⟨-, -, -, howner⟩ := Part.ownedOutput_eq_some.1 hu
    exact .setOutput rfl howner h

theorem Steady.setCell {c : CellId} {x : Cell} (howner : x.owner = p.cells[c].owner) (h : c ∈ p.jobs[j].cells) :
    Steady j p (p.setCell c x) :=
  .of_move (.cell c x howner ⟨j, h⟩) rfl

theorem Steady.setPhase (ph : Option CellPhase) : Steady j p (p.setPhase j ph) := by
  unfold Part.setPhase
  split
  · exact .refl
  · next c cs hc => exact .setCell rfl (by rw [hc]; exact List.mem_cons_self)

theorem Steady.zeroCount : Steady j p (p.zeroCount j) := by
  unfold Part.zeroCount
  split
  · exact .refl
  · next c cs hc => exact .setCell rfl (by rw [hc]; exact List.mem_cons_self)

theorem Steady.countUp : Steady j p (p.countUp j) := by
  unfold Part.countUp
  split
  · exact .refl
  · next low hc => exact .setCell rfl (by rw [hc]; exact List.mem_cons_self)
  · next low high cs hc =>
    have hlow : low ∈ p.jobs[j].cells := by rw [hc]; exact List.mem_cons_self
    have hhigh : high ∈ p.jobs[j].cells := by rw [hc]; exact List.mem_cons_of_mem _ List.mem_cons_self
    split
    · refine Steady.trans (q := p.setCell low { p.cells[low] with count := 0#16 }) (.setCell ?_ hlow) (.setCell ?_ hhigh) <;>
        rfl
    · exact .setCell rfl hlow

/-! ### The schedule -/

theorem Steady.place {purpose : Purpose} (due : Time) (h : p.MayPlace j purpose) : Steady j p (p.place j purpose due) :=
  .of_move (.place j purpose due (.inl h)) rfl

theorem Steady.unschedule : Steady j p (p.unschedule j) :=
  .of_move (.lapse _ List.filter_sublist) rfl

theorem Steady.popEntry : Steady j p p.popEntry := .of_move (.lapse _ (List.tail_sublist _)) rfl

/-! ### The reports -/

theorem satSucc_le (largest n : Nat) (h : n ≤ largest) : satSucc largest n ≤ largest := by
  unfold satSucc
  split <;> omega

/-- An admission, with room for it (R133). -/
theorem Steady.enqueue (hroom : p.hasRoom = true) (job : Option JobId) (run : BitVec 8) (time : Time) (lost : Nat)
    (content : ReportContent) : Steady j p (p.enqueue job run time lost content) := by
  refine .of_move (.reports (p := p) (p.enqueue job run time lost content).reports
    (fun hlaw => hlaw.admission rfl rfl rfl rfl rfl rfl) rfl fun _ => ?_) rfl
  have hroom : p.reports.queue.length + p.reports.reservations < 64 := of_decide_eq_true hroom
  simp only [Part.enqueue, List.length_append, List.length_singleton]
  omega

/-- An offer to the queue (R133, R135); the lost counter of a live job may rise. -/
theorem Steady.offer (time : Time) (content : ReportContent) (h : p.jobs[j].state.live = true) :
    Steady j p (p.offer j time content) := by
  obtain ⟨hroom, heq⟩ | ⟨-, heq⟩ := p.offer_cases j time content
  · rw [heq]
    refine Steady.trans (.enqueue hroom _ _ _ _ _) (.setLost (fun _ => Nat.zero_le _) (.inr rfl))
  · rw [heq]
    exact .setLost (satSucc_le _ _) (.inl h)

theorem ReportEntry.fold_frame (e : ReportEntry) (number : BitVec 32) (time : Time) :
    (e.fold number time).seq = e.seq ∧ (e.fold number time).delivery = e.delivery := by
  unfold ReportEntry.fold
  split <;> exact ⟨rfl, rfl⟩

/-- Entries that keep number and delivery state may change. -/
theorem Steady.mapReports {r : Reporter} {f : ReportEntry → ReportEntry} (hseq : ∀ e, (f e).seq = e.seq)
    (hdel : ∀ e, (f e).delivery = e.delivery) (hr : r = { p.reports with queue := p.reports.queue.map f }) :
    Steady j p { p with reports := r } := by
  subst hr
  refine .of_move (.reports (p := p) _ (fun hlaw => hlaw.map hseq hdel rfl rfl rfl rfl) rfl fun h => ?_) rfl
  simpa only [List.length_map, Part.occupancy] using h

theorem Steady.offerTick (number : BitVec 32) (time : Time) (h : p.jobs[j].state.live = true) :
    Steady j p (p.offerTick j number time) := by
  unfold Part.offerTick
  split
  · refine .mapReports (f := fun e => if e.coalesces j then e.fold number time else e) (fun e => ?_) (fun e => ?_) rfl
    · split
      · exact (e.fold_frame number time).1
      · rfl
    · split
      · exact (e.fold_frame number time).2
      · rfl
  · exact .offer time _ h

/-! ### What the kinds do at an entry into RUNNING -/

theorem Steady.beginMeasure {m : MeasureParams} {g : MeasureProgress} (t : Time) (hw : p.Fits j (.measure m g))
    (hmay : ∀ purpose, (Work.measure m g).purpose = some purpose → p.MayPlace j purpose) :
    Steady j p (p.beginMeasure j m g t) := by
  have hset : ∀ x : MeasureProgress, Steady j p (p.setWork j (.measure m x)) := fun x => .setWork hw
  unfold Part.beginMeasure
  split
  case h_1 hmode =>
    split
    · exact (hset _).trans (.place _ ((hset _).mayPlace (hmay _ (by simp only [Work.purpose, hmode]))))
    · exact .refl
  case h_2 => exact .refl
  case h_3 => exact .refl
  case h_4 hmode =>
    have hbefore := (hset { g with windowStart := some t }).trans Steady.zeroCount
    exact hbefore.trans (.place _ (hbefore.mayPlace (hmay _ (by simp only [Work.purpose, hmode]))))

theorem Steady.beginPeriod {w : WaveParams} (g : WaveProgress) (t : Time) (hw : p.Fits j (.wave w g))
    (h : p.jobs[j].state.working = true) : Steady j p (p.beginPeriod j w g t) := by
  have hbefore := Steady.setWork (p := p) (j := j)
    (w := .wave w { g with phase := some .active, periodStart := some t, turnsLeft := turnsOf w.width }) hw
  exact (hbefore.trans (.driveActive (hbefore.working h))).trans (.setPhase _)

theorem Steady.beginKind (t : Time) (h : p.jobs[j].state.working = true) : Steady j p (p.beginKind j t) := by
  unfold Part.beginKind
  split
  case h_1 => exact .refl
  case h_2 => exact .refl
  case h_3 hw =>
    exact .beginMeasure t (Part.fits_of_workOf hw rfl rfl) fun _ hpurpose => Part.mayPlace_of_workOf h hw hpurpose
  case h_4 d _ hw =>
    have hbefore := Steady.place (p := p) (j := j) (purpose := .expiry) (plus t d.duration) (Part.mayPlace_of_workOf h hw rfl)
    exact hbefore.trans (.driveActive (hbefore.working h))
  case h_5 hw => exact .place _ (Part.mayPlace_of_workOf h hw rfl)
  case h_6 hw => exact .beginPeriod _ t (Part.fits_of_workOf hw rfl rfl) h
  case h_7 => exact .refl

end

end Sys2Proof.Machine
end

section
/-! SUPPORT. Starts, HOLD, RESUME and endings, with the links that follow, as moves. -/

namespace Sys2Proof.Machine

open Sys2Proof

section
variable {p : Part} {j : JobId}

/-! ### Entry into RUNNING (R11) -/

/-- The RUNNING entry time is written, and nothing else. -/
def Part.setEntryTime (p : Part) (j : JobId) (t : Time) : Part :=
  p.setJob j { p.jobs[j] with defn := p.jobs[j].defn.map (fun d => { d with entryTime := t }) }

theorem Steady.setEntryTime (t : Time) : Steady j p (p.setEntryTime j t) := by
  refine Steady.setJob ⟨rfl, ?_, rfl, rfl, rfl, .inl, id⟩
  cases p.jobs[j].defn <;> rfl

theorem Part.enterRunning_eq (t : Time) :
    p.enterRunning j t = ((p.setState j .running).setEntryTime j t).beginKind j t := by
  have hset : p.setJob j { p.jobs[j] with
      state := .running, defn := p.jobs[j].defn.map (fun d => { d with entryTime := t }) } =
      (p.setState j .running).setEntryTime j t := by
    simp [Part.setEntryTime, Part.setState, Part.setJob]
  rw [Part.enterRunning, hset]

theorem Steady.enterRunning (t : Time) : Steady j (p.setState j .running) (p.enterRunning j t) := by
  have hworks : (p.setState j .running).jobs[j].state.working = true := by simp [JobState.working]
  rw [Part.enterRunning_eq]
  exact (Steady.setEntryTime t).trans (.beginKind t ((Steady.setEntryTime t).working hworks))

theorem Part.enterRunning_moves (t : Time) (h : p.jobs[j].state = .armed) : Moves p (p.enterRunning j t) :=
  .head (.turn j .running (by rw [h]; rfl) rfl (fun _ => rfl) (.inl rfl) (by rintro (h | h) <;> cases h))
    (Steady.enterRunning t).moves

theorem Part.started_moves {d : Definition} {cs : List CellId} (t : Time)
    (hidle : p.jobs[j].state = .defined ∨ p.jobs[j].state = .ended) (hd : p.jobs[j].defn = some d)
    (hclaim : p.claim j d = .granted cs) : Moves p ((p.grant j d cs).enterRunning j t) :=
  .head (.start j d cs .running hidle hd hclaim (.inr rfl)) (Steady.enterRunning t).moves

/-! ### HOLD and RESUME (R15, R16) -/

theorem Part.driveIdle_setState (st : JobState) : (p.setState j st).driveIdle j = (p.driveIdle j).setState j st := by
  have howned : (p.setState j st).ownedOutput j = p.ownedOutput j := by
    simp only [Part.ownedOutput, Fin.getElem_fin, Part.setState_jobs_self, Part.setState_outputs] <;> rfl
  unfold Part.driveIdle
  rw [howned]
  cases p.ownedOutput j <;> rfl

theorem Part.setPhase_setState (st : JobState) (ph : Option CellPhase) :
    (p.setState j st).setPhase j ph = (p.setPhase j ph).setState j st := by
  have hcells : (p.setState j st).jobs[j].cells = p.jobs[j].cells := by simp
  unfold Part.setPhase
  rw [hcells]
  cases p.jobs[j].cells <;> rfl

/-- The state changes last: what goes before happens while the job still runs. -/
theorem Part.holdJob_eq {w : Work} (hw : p.workOf j = some w) :
    p.holdJob j = ((((p.setWork j (w.held (p.timeLeftOf j))).unschedule j).driveIdle j).setPhase j none).setState j .held := by
  simp only [Part.holdJob, hw]
  rw [show ((p.setWork j (w.held (p.timeLeftOf j))).setState j .held).unschedule j =
    ((p.setWork j (w.held (p.timeLeftOf j))).unschedule j).setState j .held from rfl,
    Part.driveIdle_setState, Part.setPhase_setState]

theorem Work.held_needs (w : Work) (left : Nat) :
    (w.held left).cellsNeeded = w.cellsNeeded ∧ (w.held left).purpose = w.purpose := by
  cases w <;> exact ⟨rfl, rfl⟩

/-- A line that its job has driven idle is at the idle level of the job's definition. -/
theorem Part.driveIdle_idleAt {d : Definition} {o : OutId} (hd : p.jobs[j].defn = some d)
    (ho : (p.driveIdle j).outputs[o].owner = some j) : d.idleAt o (p.driveIdle j).outputs[o].level = true := by
  refine Definition.idleAt_iff.2 fun u hu hl => ?_
  subst hl
  unfold Part.driveIdle at ho ⊢
  cases howned : p.ownedOutput j with
  | none =>
    rw [howned] at ho
    rw [Part.ownedOutput_eq_some.2 ⟨d, hd, hu, ho⟩] at howned
    cases howned
  | some v =>
    obtain ⟨d', hd', hv, -⟩ := Part.ownedOutput_eq_some.1 howned
    obtain rfl : d = d' := Option.some.inj (hd.symm.trans hd')
    obtain rfl : u = v := Option.some.inj (hu.symm.trans hv)
    simp

theorem Part.holdJob_moves (h : p.jobs[j].state = .running) : Moves p (p.holdJob j) := by
  cases hw : p.workOf j with
  | none => simp only [Part.holdJob, hw]; exact .refl
  | some w =>
    rw [Part.holdJob_eq hw]
    have hwork : Steady j p (p.setWork j (w.held (p.timeLeftOf j))) :=
      .setWork (Part.fits_of_workOf hw (w.held_needs _).1 (w.held_needs _).2)
    generalize hq : (p.setWork j (w.held (p.timeLeftOf j))).unschedule j = q
    have hsteady : Steady j p q := hq ▸ hwork.trans .unschedule
    have hsched : ∀ e ∈ q.schedule, e.job ≠ j := by
      rw [← hq, Part.unschedule_schedule]
      exact fun e he => of_decide_eq_true (List.mem_filter.1 he).2
    have hworks : q.jobs[j].state.working = true := hsteady.working (by rw [h]; rfl)
    have hlast : Steady j q ((q.driveIdle j).setPhase j none) := (Steady.driveIdle hworks).trans (.setPhase none)
    refine (hsteady.trans hlast).moves.tail (.turn j .held ?_ rfl (fun _ => rfl) (.inr ?_) fun _ d o hd ho => ?_)
    · exact (hsteady.trans hlast).live (by rw [h]; rfl)
    · rwa [Part.setPhase_schedule, Part.driveIdle_schedule]
    · simp only [Part.setPhase_jobs, Part.driveIdle_jobs] at hd
      rw [Part.setPhase_outputs] at ho ⊢
      exact Part.driveIdle_idleAt hd ho

/-- RESUME makes the job RUNNING first. -/
theorem Part.resumeJob_steady : Steady j (p.setState j .running) (p.resumeJob j) := by
  have hworks : (p.setState j .running).jobs[j].state.working = true := by simp [JobState.working]
  unfold Part.resumeJob
  generalize p.setState j .running = q at hworks
  dsimp only
  split
  case h_1 => exact .refl
  case h_2 => exact .refl
  case h_3 hw =>
    exact .beginMeasure _ (Part.fits_of_workOf hw rfl rfl) fun _ hpurpose => Part.mayPlace_of_workOf hworks hw hpurpose
  case h_4 g hw =>
    have hbefore := Steady.place (p := q) (j := j) (purpose := .expiry) (plus q.time g.remaining)
      (Part.mayPlace_of_workOf hworks hw rfl)
    exact hbefore.trans (.driveActive (hbefore.working hworks))
  case h_5 hw => exact .place _ (Part.mayPlace_of_workOf hworks hw rfl)
  case h_6 w g hw =>
    have hbefore : Steady j q (q.setStaged j none) := .setStaged_none
    exact hbefore.trans (.beginPeriod g _ (hbefore.fits (Part.fits_of_workOf hw rfl rfl)) (hbefore.working hworks))
  case h_7 => exact .refl

theorem Part.resumeJob_moves (h : p.jobs[j].state = .held) : Moves p (p.resumeJob j) :=
  .head (.turn j .running (by rw [h]; rfl) rfl (fun _ => rfl) (.inl rfl) (by rintro (h | h) <;> cases h))
    Part.resumeJob_steady.moves

/-! ### Links and endings (R27, R125–R128) -/

theorem Part.startLink_moves : Moves p (p.startLink j).1 := by
  unfold Part.startLink
  split
  case h_1 hst => exact Part.enterRunning_moves _ hst
  case h_2 d hst hd =>
    split
    case h_4 hclaim => exact Part.started_moves _ (.inl hst) hd hclaim
    all_goals exact .refl
  case h_3 d hst hd =>
    split
    case h_4 hclaim => exact Part.started_moves _ (.inr hst) hd hclaim
    all_goals exact .refl
  all_goals exact .refl

theorem ReportEntry.setOutcome_frame (e : ReportEntry) (seq : BitVec 16) (o : LinkOutcome) :
    (e.setOutcome seq o).seq = e.seq ∧ (e.setOutcome seq o).delivery = e.delivery := by
  unfold ReportEntry.setOutcome
  split
  · split <;> exact ⟨rfl, rfl⟩
  · exact ⟨rfl, rfl⟩

theorem Job.Like.withOutcome (b : Job) (o : LinkOutcome) : b.Like (b.withOutcome o) :=
  ⟨rfl, rfl, rfl, rfl, by simp [Job.withOutcome], .inl, id⟩

theorem Part.recordOutcome_moves (seq : BitVec 16) (o : LinkOutcome) : Moves p (p.recordOutcome j seq o) := by
  have hqueue : Steady j p { p with reports := { p.reports with
      queue := p.reports.queue.map (fun e => e.setOutcome seq o) } } :=
    .mapReports (fun e => (e.setOutcome_frame seq o).1) (fun e => (e.setOutcome_frame seq o).2) rfl
  exact (hqueue.trans (Steady.setJob (Job.Like.withOutcome _ o))).moves

theorem Part.endWith_moves {stop : Part → JobId → Part}
    (hstop : ∀ (q : Part) (t : JobId), q.jobs[t].state.live = true → Moves q (stop q t)) (cause : EndCause) (endTime : Time)
    (sample : Nat) (h : p.jobs[j].state.live = true) : Moves p (Part.endWith stop p j cause endTime sample) := by
  have hsteps : Moves p (p.endSteps j cause endTime sample) := .single (.finish j cause endTime sample h)
  obtain ⟨-, heq⟩ | ⟨r, o, heq, hr⟩ := Part.endWith_cases stop p j cause endTime sample
  · rw [heq]; exact hsteps
  · rw [heq]
    refine (hsteps.trans ?_).trans (Part.recordOutcome_moves _ _)
    rcases hr with rfl | ⟨t, rfl⟩ | ⟨t, hlive, rfl⟩
    · exact .refl
    · exact Part.startLink_moves
    · exact hstop _ t hlive

/-- A whole cascade is moves, since each ending in it is of a live job (R126, R128). -/
theorem Part.cascade_moves (n : Nat) : ∀ (p : Part) (j : JobId) (cause : EndCause) (endTime : Time) (sample : Nat),
    p.jobs[j].state.live = true → Moves p (Part.cascade n p j cause endTime sample) := by
  induction n with
  | zero => exact fun p j cause endTime sample h => Part.endWith_moves (fun _ _ _ => .refl) cause endTime sample h
  | succ n ih =>
    exact fun p j cause endTime sample h =>
      Part.endWith_moves (fun q t ht => ih q t .linkedStop q.time 0 ht) cause endTime sample h

theorem Part.endJob_moves (cause : EndCause) (endTime : Time) (sample : Nat) (h : p.jobs[j].state.live = true) :
    Moves p (p.endJob j cause endTime sample) :=
  Part.cascade_moves 32 p j cause endTime sample h

/-- An ending after steady moves of a live job. -/
theorem Steady.endJob {q : Part} (hq : Steady j p q) (cause : EndCause) (endTime : Time) (sample : Nat)
    (h : p.jobs[j].state.live = true) : Moves p (q.endJob j cause endTime sample) :=
  hq.moves.trans (Part.endJob_moves cause endTime sample (hq.live h))

end

end Sys2Proof.Machine
end

section
/-! SUPPORT. The commands as moves. -/

namespace Sys2Proof.Machine

open Sys2Proof

section
variable {p : Part} {j : JobId}

/-! ### Job commands -/

theorem onJob_part_moves {payload : List Byte} {ok : Bool} {act : JobId → Verdict}
    (h : ∀ j, Moves p ((act j).part p)) : Moves p ((onJob payload ok act).part p) := by
  unfold onJob
  split
  · split
    · exact .refl
    · exact h _
  · exact .refl

theorem actDefine_moves (payload : List Byte) : Moves p ((actDefine p payload).part p) := by
  refine onJob_part_moves fun j => ?_
  split
  · exact .refl
  · split
    · next hdef =>
      have hidle : p.jobs[j].state.live = false := by
        cases hst : p.jobs[j].state <;> first | rfl | (rw [hst] at hdef; cases hdef)
      split
      · exact .refl
      · exact .refl
      · exact .single (.redefine j _ hidle (.inr ⟨_, rfl⟩))
    · exact .refl

theorem Part.startGranted_moves {d : Definition} {cs : List CellId}
    (hidle : p.jobs[j].state = .defined ∨ p.jobs[j].state = .ended) (hd : p.jobs[j].defn = some d)
    (hclaim : p.claim j d = .granted cs) : Moves p (p.startGranted j d cs) := by
  unfold Part.startGranted
  split
  · exact Part.started_moves _ hidle hd hclaim
  · exact .single (.start j d cs .armed hidle hd hclaim (.inl rfl))
  · exact .single (.start j d cs .armed hidle hd hclaim (.inl rfl))

theorem Part.startDefined_moves {d : Definition} (hidle : p.jobs[j].state = .defined ∨ p.jobs[j].state = .ended)
    (hd : p.jobs[j].defn = some d) : Moves p ((p.startDefined j d).part p) := by
  unfold Part.startDefined
  split
  case h_4 hclaim => exact Part.startGranted_moves hidle hd hclaim
  all_goals exact .refl

theorem actStart_moves (payload : List Byte) : Moves p ((actStart p payload).part p) := by
  refine onJob_part_moves fun j => ?_
  split
  case h_1 hst hd => exact Part.startDefined_moves (.inl hst) hd
  case h_2 hst hd => exact Part.startDefined_moves (.inr hst) hd
  all_goals exact .refl

theorem Part.enterStopping_moves (h : p.jobs[j].state = .running) : Moves p (p.enterStopping j) := by
  have heq : p.enterStopping j = (p.setStaged j none).setState j .stopping := by
    simp [Part.enterStopping, Part.setStaged, Part.setState, Part.setJob]
  rw [heq]
  have hstate : (p.setStaged j none).jobs[j].state.live = true := Steady.setStaged_none.live (by rw [h]; rfl)
  refine Steady.setStaged_none.moves.tail (.turn j .stopping hstate rfl (fun hst => ?_) (.inl rfl) ?_)
  · simp at hst
  · rintro (h | h) <;> cases h

theorem Part.takenEnding_moves (cause : EndCause) (h : p.jobs[j].state.live = true) :
    Moves p ((p.takenEnding j cause).part p) :=
  Part.endJob_moves cause p.time 0 h

theorem Part.stopLive_moves (finish : Bool) (h : p.jobs[j].state.live = true) :
    Moves p ((p.stopLive j finish).part p) := by
  unfold Part.stopLive
  split
  case h_1 hst _ =>
    split
    · exact Part.enterStopping_moves hst
    · exact Part.takenEnding_moves _ h
  all_goals exact Part.takenEnding_moves _ h

theorem actStop_moves (payload : List Byte) : Moves p ((actStop p payload).part p) := by
  refine onJob_part_moves fun j => ?_
  split
  · exact .refl
  · next hlive =>
    split
    · exact .refl
    · split
      · exact .refl
      · exact Part.stopLive_moves _ (by simpa using hlive)

theorem actHold_moves (payload : List Byte) : Moves p ((actHold p payload).part p) := by
  refine onJob_part_moves fun j => ?_
  split
  · next hst => exact Part.holdJob_moves hst
  · exact .refl

theorem actResume_moves (payload : List Byte) : Moves p ((actResume p payload).part p) := by
  refine onJob_part_moves fun j => ?_
  split
  · next hst => exact Part.resumeJob_moves hst
  · exact .refl

/-! ### ALTER -/

theorem JobState.live_of_alterable {st : JobState} (h : st.alterable = true) : st.live = true := by
  cases st <;> first | rfl | cases h

/-- A job in RUNNING or HELD may hold a staged alteration. -/
theorem JobState.stages_of_alterable {st : JobState} (h : st.alterable = true) (hst : st ≠ .armed) : st.stages = true := by
  cases st with
  | armed => exact absurd rfl hst
  | running => rfl
  | held => rfl
  | free => cases h
  | defined => cases h
  | stopping => cases h
  | ended => cases h

theorem Part.alterCount_moves {c : CountParams} {g : CountProgress} (limit step : Nat)
    (hw : p.workOf j = some (.count c g)) (h : p.jobs[j].state.live = true) :
    Moves p ((p.alterCount j c g limit step).part p) := by
  have hset : Steady j p (p.setWork j (.count { c with limit := limit, step := step } g)) :=
    .setWork (Part.fits_of_workOf hw rfl rfl)
  unfold Part.alterCount
  dsimp only
  split
  · exact hset.endJob _ _ _ h
  · exact hset.moves

/-- A STALL entry that is recomputed takes the place of the one that the job holds. -/
theorem Part.recomputeStall_moves (g : MeasureProgress) (highLimit : Nat) (h : p.jobs[j].state.live = true) :
    Moves p ((p.recomputeStall j g highLimit).part p) := by
  unfold Part.recomputeStall
  split
  · next hstall =>
    split
    · exact .refl
    · split
      · exact Part.takenEnding_moves _ h
      · refine .single (.place j .stall _ (.inr ?_))
        unfold Part.holdsStall at hstall
        split at hstall
        · cases hstall
        · next e he => exact ⟨e, List.mem_of_find?_eq_some he, of_decide_eq_true (List.find?_some (p := fun e : DeadlineEntry => decide (e.job = j)) he),
            of_decide_eq_true hstall⟩
  · exact .refl

/-- What a verdict leaves does not depend on the part it would leave as it was, once it takes the command. -/
theorem Part.recomputeStall_part (q : Part) (g : MeasureProgress) (highLimit : Nat) :
    (p.recomputeStall j g highLimit).part q = (p.recomputeStall j g highLimit).part p := by
  unfold Part.recomputeStall
  split
  · split
    · rfl
    · split <;> rfl
  · rfl

theorem Part.alterMeasure_moves {m : MeasureParams} {g : MeasureProgress} (low high report : Nat)
    (hw : p.workOf j = some (.measure m g)) (h : p.jobs[j].state.live = true) :
    Moves p ((p.alterMeasure j m g low high report).part p) := by
  unfold Part.alterMeasure
  rw [Part.recomputeStall_part]
  have hset := Steady.setWork (p := p) (j := j) (w := .measure { m with lowLimit := low, highLimit := high, reportInterval := report }
    { g with sinceReport := if report = 0 then 0 else g.sinceReport }) (Part.fits_of_workOf hw rfl rfl)
  exact hset.moves.trans (Part.recomputeStall_moves g high (hset.live h))

theorem Part.alterTick_moves {k : TickParams} {g : TickProgress} (period : Nat) (hw : p.workOf j = some (.tick k g))
    (h : p.jobs[j].state.alterable = true) : Moves p (p.alterTick j k g period) := by
  unfold Part.alterTick
  split
  · refine (Steady.setWork ?_).moves
    exact Part.fits_of_workOf hw rfl rfl
  · next hst => exact (Steady.setStaged _ (JobState.stages_of_alterable h hst)).moves

theorem Part.alterWave_moves {w : WaveParams} {g : WaveProgress} (period width : Nat) (hw : p.workOf j = some (.wave w g))
    (h : p.jobs[j].state.alterable = true) : Moves p (p.alterWave j w g period width) := by
  unfold Part.alterWave
  split
  · refine (Steady.setWork ?_).moves
    exact Part.fits_of_workOf hw rfl rfl
  · next hst => exact (Steady.setStaged _ (JobState.stages_of_alterable h hst)).moves

theorem Part.alterChecked_moves {w : Work} (payload : List Byte) (hw : p.workOf j = some w)
    (h : p.jobs[j].state.alterable = true) : Moves p ((p.alterChecked j w payload).part p) := by
  cases w with
  | count c g => exact Part.alterCount_moves _ _ hw (JobState.live_of_alterable h)
  | measure m g => exact Part.alterMeasure_moves _ _ _ hw (JobState.live_of_alterable h)
  | delay d g => exact .refl
  | tick k g => exact Part.alterTick_moves _ hw h
  | wave v g => exact Part.alterWave_moves _ _ hw h
  | echo e g =>
    refine (Steady.setWork ?_).moves
    exact Part.fits_of_workOf hw rfl rfl

theorem actAlter_moves (payload : List Byte) : Moves p ((actAlter p payload).part p) := by
  refine onJob_part_moves fun j => ?_
  split
  · exact .refl
  · exact .refl
  · next w halter hw =>
    split
    · exact .refl
    · split
      · exact .refl
      · exact Part.alterChecked_moves payload hw halter

/-! ### READ, DELETE and LIST -/

theorem actRead_moves (payload : List Byte) : Moves p ((actRead p payload).part p) := by
  refine onJob_part_moves fun j => ?_
  split <;> exact .refl

theorem actDelete_moves (payload : List Byte) : Moves p ((actDelete p payload).part p) := by
  refine onJob_part_moves fun j => ?_
  split
  case h_1 hst => exact .single (.redefine j _ (by rw [hst]; rfl) (.inl rfl))
  case h_2 hst => exact .single (.redefine j _ (by rw [hst]; rfl) (.inl rfl))
  all_goals exact .refl

theorem actList_moves (payload : List Byte) : Moves p ((actList p payload).part p) := by
  unfold actList
  split <;> exact .refl

/-! ### Commands to the device -/

theorem actIdent_moves (payload : List Byte) : Moves p ((actIdent p payload).part p) := by
  unfold actIdent
  split <;> exact .refl

theorem actTime_moves (payload : List Byte) : Moves p ((actTime p payload).part p) := by
  unfold actTime
  split <;> exact .refl

theorem actAck_moves (payload : List Byte) : Moves p ((actAck p payload).part p) := by
  unfold actAck
  split
  · split
    · next n _ =>
      refine .single (.reports (p := p) _ (fun h => h.remove p.time n) rfl fun h => ?_)
      have := List.length_drop (i := n) (l := p.reports.queue)
      simp only [Part.occupancy, Reporter.remove] at h ⊢
      omega
    · split <;> exact .refl
  · exact .refl

theorem actReconnect_moves (payload : List Byte) : Moves p ((actReconnect p payload).part p) := by
  unfold actReconnect
  split
  · refine .single (.reports (p := p) _ (fun h => h.resendAll rfl rfl rfl) rfl fun h => ?_)
    simpa only [Part.occupancy, Reporter.reconnect, resendAll, List.length_map] using h
  · exact .refl

theorem actLinkcfg_moves (payload : List Byte) : Moves p ((actLinkcfg p payload).part p) := by
  unfold actLinkcfg
  split
  · split
    · exact .refl
    · exact .refl
    · exact .single (.reports (p := p) _ (fun h => h.congr rfl rfl rfl rfl) rfl id)
  · exact .refl

theorem actLinecfg_moves (payload : List Byte) : Moves p ((actLinecfg p payload).part p) := by
  unfold actLinecfg
  split
  · split
    · exact .refl
    · split
      · exact .refl
      · exact .single (.other rfl rfl rfl rfl rfl rfl)
  · exact .refl

/-- DRIVE sets a line that no job owns (R41). -/
theorem actDrive_moves (payload : List Byte) : Moves p ((actDrive p payload).part p) := by
  unfold actDrive
  split
  · split
    · exact .refl
    · exact .refl
    · split
      · exact .refl
      · next hnone =>
        exact .single (.output _ _ hnone.symm fun j hj => nomatch hj)
  · exact .refl

theorem actSense_moves (payload : List Byte) : Moves p ((actSense p payload).part p) := by
  unfold actSense
  split <;> exact .refl

theorem actLinkstat_moves (payload : List Byte) : Moves p ((actLinkstat p payload).part p) := by
  unfold actLinkstat
  split
  · split
    · exact .refl
    · exact .single (.other rfl rfl rfl rfl rfl rfl)
    · exact .refl
  · exact .refl

theorem actReset_moves (payload : List Byte) : Moves p ((actReset p payload).part p) := by
  unfold actReset
  split
  · exact .single (.other rfl rfl rfl rfl rfl rfl)
  · exact .refl

/-! ### The intake -/

theorem Part.arbitrate_moves : Moves p p.arbitrate := by
  obtain h | ⟨f, rest, -, -, -, h⟩ | ⟨e, -, -, -, he, h⟩ := p.arbitrate_cases
  · rw [h]
  · rw [h]; exact .single (.other rfl rfl rfl rfl rfl rfl)
  · rw [h]
    refine .trans (.single (.reports (p := p) (p.reports.begin p.time e) (fun hlaw => hlaw.begin he p.time) rfl fun hroom => ?_))
      (.single (.other rfl rfl rfl rfl rfl rfl))
    simpa only [Part.occupancy, Reporter.begin, (numbered_markSent (next := 0#16)).1] using hroom

theorem Part.intake_moves {isKind : Byte → Bool} {replyKind : Byte → Byte} {act : Part → List Byte → Verdict}
    (h : ∀ (q : Part) (payload : List Byte), Moves q ((act q payload).part q)) :
    Moves p (p.intake isKind replyKind act) := by
  unfold Part.intake
  split
  · exact .refl
  · next f _ =>
    split
    · refine .trans ?_ Part.arbitrate_moves
      exact (Relation.ReflTransGen.single (.other (q := p.dropFrame) rfl rfl rfl rfl rfl rfl)).trans
        ((h p.dropFrame f.payload).trans (.single (.other rfl rfl rfl rfl rfl rfl)))
    · exact .refl

end

end Sys2Proof.Machine
end

section
/-! SUPPORT. Edges, deadlines, cell events, the loss of the link, the port, resets and the running of time as moves. -/

namespace Sys2Proof.Machine

open Sys2Proof

section
variable {p : Part} {j : JobId}

/-! ### Samples and acceptances (R33, R34) -/

theorem Job.live_of_watches {b : Job} {i : InId} (h : b.watches i = true) : b.state.live = true := by
  unfold Job.watches at h
  split at h
  · cases h
  · cases hst : b.state with
    | armed => rfl
    | running => rfl
    | held => rfl
    | stopping => rfl
    | free => rw [hst] at h; cases h
    | defined => rw [hst] at h; cases h
    | ended => rw [hst] at h; cases h

theorem Part.setInput_move (i : InId) (l : InputLine) : Move p (p.setInput i l) := .other rfl rfl rfl rfl rfl rfl

/-- The edges of an acceptance go out to jobs that watch, so to live ones. -/
theorem Part.acceptChange_moves (i : InId) (c : LineChange) : Moves p (p.acceptChange i c) := by
  refine .tail (.single (Part.setInput_move i { p.inputs[i] with filtered := c.level, change := none })) (.edges _ fun d hd => ?_)
  rcases List.mem_append.1 hd with hold | hnew
  · exact .inl hold
  · obtain ⟨j, hj, rfl⟩ := List.mem_map.1 hnew
    exact .inr (Job.live_of_watches (List.mem_filter.1 hj).2)

theorem Part.acceptDue_moves (i : InId) : Moves p (p.acceptDue i) := by
  unfold Part.acceptDue
  split
  · exact .refl
  · split
    · exact Part.acceptChange_moves i _
    · exact .refl

theorem Part.compareSample_moves (i : InId) (level : Level) : Moves p (p.compareSample i level) := by
  unfold Part.compareSample
  split
  · exact .single (Part.setInput_move i _)
  · split
    · exact .refl
    · split
      · exact Part.acceptChange_moves i _
      · exact .single (Part.setInput_move i _)

theorem Part.sampleLine_moves (i : InId) (level : Level) : Moves p (p.sampleLine i level) :=
  (Part.acceptDue_moves i).trans (Part.compareSample_moves i level)

/-! ### COUNT (R48–R53) -/

theorem Part.takeCountEdge_moves {c : CountParams} {g : CountProgress} (acceptedIn : JobState) (e : Edge)
    (hw : p.workOf j = some (.count c g)) (h : p.jobs[j].state.live = true) :
    Moves p (p.takeCountEdge j c g acceptedIn e) := by
  unfold Part.takeCountEdge
  split
  · split
    · unfold Part.countEdge
      split
      · exact Part.endJob_moves _ _ _ h
      · dsimp only
        split
        · exact Steady.countUp.endJob _ _ _ h
        · split
          · exact (Steady.countUp.trans (.offer _ _ (Steady.countUp.live h))).moves
          · exact Steady.countUp.moves
    · refine (Steady.setWork ?_).moves
      exact Part.fits_of_workOf hw rfl rfl
  · exact .refl

/-! ### MEASURE (R63–R69) -/

theorem Steady.acceptSample {m : MeasureParams} {g : MeasureProgress} (sample : Nat) (time : Time)
    (hw : p.Fits j (.measure m g)) (h : p.jobs[j].state.live = true) :
    Steady j p (p.acceptSample j m g sample time) := by
  have hset : Steady j p (p.setWork j (.measure m (g.accept m sample))) := .setWork hw
  unfold Part.acceptSample
  dsimp only
  split
  · exact hset.trans (.offer _ _ (hset.live h))
  · exact hset

theorem Steady.openInterval {m : MeasureParams} {g : MeasureProgress} (t : Time) (hw : p.Fits j (.measure m g))
    (hmay : p.MayPlace j .stall) : Steady j p (p.openInterval j m g t) := by
  have hset : Steady j p (p.setWork j (.measure m { g with
    interval := some { openedAt := t, aged := false }
    stallRef := if m.stall ∧ m.mode = .period then some t else g.stallRef })) := .setWork hw
  unfold Part.openInterval
  dsimp only
  split
  · exact hset.trans (.place _ (hset.mayPlace hmay))
  · exact hset

theorem Part.periodEdge_moves {m : MeasureParams} {g : MeasureProgress} (t : Time) (hw : p.Fits j (.measure m g))
    (hmay : p.MayPlace j .stall) : Moves p (p.periodEdge j m g t) := by
  have hlive := JobState.live_of_working hmay.1
  unfold Part.periodEdge
  split
  · exact (Steady.openInterval t hw hmay).moves
  · split
    · exact Part.endJob_moves _ _ _ hlive
    · next i _ _ _ =>
      have hacc := Steady.acceptSample (i.sample t) t hw hlive
      refine (hacc.trans (.openInterval t ?_ (hacc.mayPlace hmay))).moves
      exact hacc.fits hw

theorem Part.closingEdge_moves {m : MeasureParams} {g : MeasureProgress} (t : Time) (hw : p.Fits j (.measure m g))
    (h : p.jobs[j].state.live = true) : Moves p (p.closingEdge j m g t) := by
  unfold Part.closingEdge
  split
  · exact .refl
  · split
    · exact Steady.unschedule.endJob _ _ _ h
    · refine (Steady.unschedule.trans (.acceptSample _ t ?_ (Steady.unschedule.live h))).moves
      exact Steady.unschedule.fits hw

theorem Part.openingEdge_moves {m : MeasureParams} {g : MeasureProgress} (t : Time) (hw : p.Fits j (.measure m g))
    (hmay : p.MayPlace j .stall) : Moves p (p.openingEdge j m g t) := by
  unfold Part.openingEdge
  split
  · exact (Steady.openInterval t hw hmay).moves
  · exact .refl

theorem Part.windowEdge_moves (sel : EdgeSelect) (e : Edge) (h : p.jobs[j].state.live = true) :
    Moves p (p.windowEdge j sel e) := by
  unfold Part.windowEdge
  split
  · split
    · exact Part.endJob_moves _ _ _ h
    · exact Steady.countUp.moves
  · exact .refl

theorem Part.takeMeasureEdge_moves {m : MeasureParams} {g : MeasureProgress} (e : Edge)
    (hw : p.workOf j = some (.measure m g)) (h : p.jobs[j].state.working = true) :
    Moves p (p.takeMeasureEdge j m g e) := by
  have hfits : p.Fits j (.measure m g) := Part.fits_of_workOf hw rfl rfl
  have hmay : (m.mode = .period ∨ m.mode = .high ∨ m.mode = .low) → p.MayPlace j .stall := fun hm =>
    Part.mayPlace_of_workOf h hw (by rcases hm with hm | hm | hm <;> simp only [Work.purpose, hm])
  unfold Part.takeMeasureEdge
  split
  case h_1 hm _ => exact Part.periodEdge_moves _ hfits (hmay (.inl hm))
  case h_2 => exact .refl
  case h_3 hm _ => exact Part.openingEdge_moves _ hfits (hmay (.inr (.inl hm)))
  case h_4 => exact Part.closingEdge_moves _ hfits (JobState.live_of_working h)
  case h_5 hm _ => exact Part.openingEdge_moves _ hfits (hmay (.inr (.inr hm)))
  case h_6 => exact Part.closingEdge_moves _ hfits (JobState.live_of_working h)
  case h_7 => exact Part.windowEdge_moves _ e (JobState.live_of_working h)

/-! ### ECHO (R112, R113) -/

theorem Steady.joinEcho {e : EchoParams} {g : EchoProgress} (x : Edge) (hw : p.Fits j (.echo e g))
    (hmay : p.MayPlace j .echoDue) : Steady j p (p.joinEcho j e g x) := by
  have hset : Steady j p (p.setWork j (.echo e { g with
    pendingList := g.pendingList ++ [{ due := echoDueTime e g x, width := e.width }]
    slipped := if echoSlips e g x then satAdd32 g.slipped 1 else g.slipped })) := .setWork hw
  unfold Part.joinEcho
  dsimp only
  split
  · exact hset.trans (.place _ (hset.mayPlace hmay))
  · exact hset

theorem Steady.missEcho {e : EchoParams} {g : EchoProgress} (hw : p.Fits j (.echo e g)) :
    Steady j p (p.missEcho j e g) := .setWork hw

theorem Steady.takeEchoEdge {e : EchoParams} {g : EchoProgress} (x : Edge) (hw : p.Fits j (.echo e g))
    (hmay : p.MayPlace j .echoDue) : Steady j p (p.takeEchoEdge j e g x) := by
  unfold Part.takeEchoEdge
  split
  · unfold Part.overlapEcho
    split
    · split
      · exact .joinEcho x hw hmay
      · exact .missEcho hw
    · split
      · exact .joinEcho x hw hmay
      · refine Steady.unschedule.trans (.joinEcho x ?_ (Steady.unschedule.mayPlace hmay))
        exact Steady.unschedule.fits hw
    · split
      · exact .joinEcho x hw hmay
      · exact .missEcho hw
  · exact .refl

/-! ### The delivery of an edge (R36) -/

theorem Part.sourceEdge_moves {w : Work} (acceptedIn : JobState) (e : Edge) (hw : p.workOf j = some w)
    (h : p.jobs[j].state.working = true) : Moves p (p.sourceEdge j w acceptedIn e) := by
  cases w with
  | count c g => exact Part.takeCountEdge_moves acceptedIn e hw (JobState.live_of_working h)
  | measure m g => exact Part.takeMeasureEdge_moves e hw h
  | delay d g => exact .refl
  | tick k g => exact .refl
  | wave w g => exact .refl
  | echo x g =>
    exact (Steady.takeEchoEdge e (Part.fits_of_workOf hw rfl rfl) (Part.mayPlace_of_workOf h hw rfl)).moves

theorem Part.takeEdge_moves (acceptedIn : JobState) (e : Edge) : Moves p (p.takeEdge j acceptedIn e) := by
  unfold Part.takeEdge
  split
  · exact .refl
  · next d hd =>
    split
    case h_1 hst =>
      split
      · split
        · exact Part.enterRunning_moves _ hst
        · exact .refl
      · exact .refl
      · exact .refl
    case h_2 hst =>
      split
      · exact Part.sourceEdge_moves acceptedIn e (Part.workOf_some hd) (by rw [hst]; rfl)
      · exact .refl
    all_goals exact .refl

theorem Part.deliverTo_moves : Moves p (p.deliverTo j) := by
  unfold Part.deliverTo
  split
  · exact .refl
  · next d _ =>
    refine .trans (.trans (.single (.edges (p.deliveries.erase d) fun x hx => .inl (List.mem_of_mem_erase hx))) ?_)
      Part.arbitrate_moves
    exact Part.takeEdge_moves d.acceptedIn d.edge

/-! ### Deadlines (R83–R98) -/

theorem Part.takeExpiry_moves (due : Time) : Moves p (p.takeExpiry j due) := by
  unfold Part.takeExpiry
  split
  · next h => exact Part.endJob_moves _ _ _ (JobState.live_of_working h)
  · exact .refl

theorem Part.takeStall_moves (due : Time) : Moves p (p.takeStall j due) := by
  unfold Part.takeStall
  split
  · next h => exact Part.endJob_moves _ _ _ (JobState.live_of_working h)
  · exact .refl

theorem Steady.nextTick {k : TickParams} {g : TickProgress} (due : Time) (hw : p.Fits j (.tick k g))
    (hmay : p.MayPlace j .tick) : Steady j p (p.nextTick j k g due) := by
  unfold Part.nextTick
  split
  · next period _ =>
    have hset : Steady j p ((p.setWork j (.tick { k with period := period } g)).setStaged j none) :=
      (Steady.setWork (p := p) (j := j) (w := .tick { k with period := period } g) hw).trans .setStaged_none
    exact hset.trans (.place _ (hset.mayPlace hmay))
  · exact .place _ hmay
  · exact .place _ hmay

theorem Part.takeTick_moves (due : Time) : Moves p (p.takeTick j due) := by
  unfold Part.takeTick
  split
  · next k g hst hw =>
    have hworks : p.jobs[j].state.working = true := by rw [hst]; rfl
    have hfits : p.Fits j (.tick k g.ticked) := Part.fits_of_workOf hw rfl rfl
    have hset : Steady j p (p.setWork j (.tick k g.ticked)) := .setWork hfits
    unfold Part.runningTick
    dsimp only
    split
    · exact hset.endJob _ _ _ (JobState.live_of_working hworks)
    · have hoffer := hset.trans (.offerTick g.ticked.ticksDone due (JobState.live_of_working (hset.working hworks)))
      refine (hoffer.trans (.nextTick due ?_ (hoffer.mayPlace (Part.mayPlace_of_workOf hworks hw rfl)))).moves
      exact hoffer.fits hfits
  · next k g hst hw =>
    refine Steady.endJob ?_ _ _ _ (by rw [hst]; rfl)
    refine .setWork ?_
    exact Part.fits_of_workOf hw rfl rfl
  · exact .refl

theorem Part.takeWindow_moves (due : Time) : Moves p (p.takeWindow j due) := by
  unfold Part.takeWindow
  split
  · next m g hst hw =>
    have hworks : p.jobs[j].state.working = true := by rw [hst]; rfl
    unfold Part.closeWindow
    split
    · exact Part.endJob_moves _ _ _ (JobState.live_of_working hworks)
    · have hfits : p.Fits j (.measure m g) := Part.fits_of_workOf hw rfl rfl
      have hacc := Steady.acceptSample (p.countOf j) due hfits (JobState.live_of_working hworks)
      refine (hacc.trans (.beginMeasure due ?_ fun purpose hpurpose => ?_)).moves
      · exact hacc.fits hfits
      · exact hacc.mayPlace (Part.mayPlace_of_workOf hworks hw hpurpose)
  · exact .refl

end

end Sys2Proof.Machine
end

section
/-! SUPPORT. Pulses, cell events, the loss of the link, the port, resets and the running of time as moves; then every step. -/

namespace Sys2Proof.Machine

open Sys2Proof

section
variable {p : Part} {j : JobId}

/-! ### ECHO pulses (R114, R115) -/

theorem Steady.beginPulse {e : EchoParams} {g : EchoProgress} (t : Time) (hw : p.Fits j (.echo e g))
    (hmay : p.MayPlace j .echoDue) : Steady j p (p.beginPulse j e g t) := by
  unfold Part.beginPulse
  split
  · exact .refl
  · next head rest _ =>
    have hset := Steady.setWork (p := p) (j := j) (w := .echo e { g with
      pendingList := rest, pulse := some { beginTime := t, endTime := plus t head.width } }) hw
    have hbefore := (hset.trans (.driveActive (hset.working hmay.1))).trans
      (.setPhase (some { start := t, length := head.width }))
    dsimp only
    split
    · exact hbefore
    · exact hbefore.trans (.place _ (hbefore.mayPlace hmay))

theorem Part.echoDueAt_moves {e : EchoParams} {g : EchoProgress} (due : Time) (hw : p.Fits j (.echo e g))
    (hmay : p.MayPlace j .echoDue) : Moves p (p.echoDueAt j e g due) := by
  unfold Part.echoDueAt
  split
  · exact (Steady.beginPulse due hw hmay).moves
  · split
    · exact (Steady.setWork (p := p) (j := j) (w := .echo e g.counted) hw).endJob _ _ _ (JobState.live_of_working hmay.1)
    · refine (Steady.beginPulse due ?_ hmay).moves
      exact hw

theorem Part.takeEchoDue_moves (due : Time) : Moves p (p.takeEchoDue j due) := by
  unfold Part.takeEchoDue
  split
  case h_1 hst hw =>
    exact Part.echoDueAt_moves due (Part.fits_of_workOf hw rfl rfl)
      (Part.mayPlace_of_workOf (by rw [hst]; rfl) hw rfl)
  case h_2 hst hw =>
    exact Part.echoDueAt_moves due (Part.fits_of_workOf hw rfl rfl)
      (Part.mayPlace_of_workOf (by rw [hst]; rfl) hw rfl)
  case h_3 => exact .refl

theorem Part.deliverDue_moves {purpose : Purpose} {act : Part → JobId → Time → Part}
    (h : ∀ (q : Part) (j : JobId) (due : Time), Moves q (act q j due)) : Moves p (p.deliverDue purpose act) := by
  unfold Part.deliverDue
  split
  · exact .refl
  · next e _ =>
    exact ((Steady.popEntry (j := e.job)).moves.trans (h _ _ _)).trans Part.arbitrate_moves

theorem Part.endPulse_moves {e : EchoParams} {g : EchoProgress} (t : Time) (hw : p.Fits j (.echo e g))
    (hmay : p.MayPlace j .echoDue) : Moves p (p.endPulse j e g t) := by
  have hset : Steady j p ((p.setWork j (.echo e g.counted)).setPhase j none) :=
    (Steady.setWork (p := p) (j := j) (w := .echo e g.counted) hw).trans (.setPhase none)
  have hlive := JobState.live_of_working hmay.1
  unfold Part.endPulse
  dsimp only
  split
  · exact hset.endJob _ _ _ hlive
  · split
    · split
      · exact hset.endJob _ _ _ hlive
      · exact (hset.trans (.driveIdle (hset.working hmay.1))).moves
    · split
      · have hsched := hset.trans Steady.unschedule
        refine (hsched.trans (.beginPulse t ?_ (hsched.mayPlace hmay))).moves
        exact hsched.fits hw
      · exact (hset.trans (.driveIdle (hset.working hmay.1))).moves

/-! ### Cell events (R100, R102, R103, R115) -/

theorem Part.phaseDue_working {left : Nat} {ph : CellPhase} (h : p.phaseDue j left = some ph) :
    p.jobs[j].state.working = true := by
  unfold Part.phaseDue at h
  split at h
  · cases h
  · split at h
    · next hc => simp only [Bool.and_eq_true] at hc; exact hc.1.1.1
    · cases h

theorem Part.wavePhaseDue_some {phase : WavePhase} {w : WaveParams} {g : WaveProgress} {t : Time}
    (h : p.wavePhaseDue j phase = some (w, g, t)) :
    p.workOf j = some (.wave w g) ∧ p.jobs[j].state.working = true := by
  unfold Part.wavePhaseDue at h
  split at h
  case h_1 w' g' hw =>
    split at h
    · obtain ⟨ph, hph, heq⟩ := Option.map_eq_some_iff.1 h
      cases heq
      exact ⟨hw, Part.phaseDue_working hph⟩
    · cases h
  all_goals cases h

theorem Part.pulseDue_some {e : EchoParams} {g : EchoProgress} {t : Time} (h : p.pulseDue j = some (e, g, t)) :
    p.workOf j = some (.echo e g) ∧ p.jobs[j].state.working = true := by
  unfold Part.pulseDue at h
  split at h
  case h_1 e' g' hw =>
    split at h
    · obtain ⟨ph, hph, heq⟩ := Option.map_eq_some_iff.1 h
      cases heq
      exact ⟨hw, Part.phaseDue_working hph⟩
    · cases h
  all_goals cases h

theorem Part.turnDue_some {w : WaveParams} {g : WaveProgress} (h : p.turnDue j = some (w, g)) :
    p.workOf j = some (.wave w g) := by
  unfold Part.turnDue at h
  split at h
  · next hw _ =>
    split at h
    · cases h; exact hw
    · cases h
  · cases h

theorem Part.activePhaseStep_moves : Moves p (p.activePhaseStep j) := by
  unfold Part.activePhaseStep
  split
  · exact .refl
  · next w g t hdue =>
    obtain ⟨hw, hworks⟩ := Part.wavePhaseDue_some hdue
    have hset := Steady.setWork (p := p) (j := j)
      (w := .wave w { g with phase := some .idle, turnsLeft := turnsOf (w.period - w.width) }) (Part.fits_of_workOf hw rfl rfl)
    exact ((hset.trans (.driveIdle (hset.working hworks))).trans (.setPhase _)).moves

theorem Part.endPeriod_moves {w : WaveParams} {g : WaveProgress} (t : Time) (hw : p.Fits j (.wave w g))
    (h : p.jobs[j].state.working = true) : Moves p (p.endPeriod j w g t) := by
  have hset : Steady j p (p.setWork j (.wave w g.counted)) := .setWork hw
  have hlive := JobState.live_of_working h
  unfold Part.endPeriod
  dsimp only
  split
  · exact hset.endJob _ _ _ hlive
  · split
    · exact hset.endJob _ _ _ hlive
    · have hbefore := hset.trans Steady.setStaged_none
      refine (hbefore.trans (.beginPeriod _ t ?_ (hbefore.working h))).moves
      exact hbefore.fits hw

theorem Part.periodStep_moves : Moves p (p.periodStep j) := by
  unfold Part.periodStep
  split
  · exact .refl
  · next w g t hdue =>
    obtain ⟨hw, hworks⟩ := Part.wavePhaseDue_some hdue
    exact (Part.endPeriod_moves t (Part.fits_of_workOf hw rfl rfl) hworks).trans Part.arbitrate_moves

theorem Part.pulseStep_moves : Moves p (p.pulseStep j) := by
  unfold Part.pulseStep
  split
  · exact .refl
  · next e g t hdue =>
    obtain ⟨hw, hworks⟩ := Part.pulseDue_some hdue
    exact (Part.endPulse_moves t (Part.fits_of_workOf hw rfl rfl) (Part.mayPlace_of_workOf hworks hw rfl)).trans
      Part.arbitrate_moves

theorem Part.turnStep_moves : Moves p (p.turnStep j) := by
  unfold Part.turnStep
  split
  · exact .refl
  · next w g hdue =>
    refine (Steady.setWork ?_).moves
    exact Part.fits_of_workOf (Part.turnDue_some hdue) rfl rfl

/-! ### The link (R143–R145) -/

theorem Part.timerStep_moves : Moves p p.timerStep := by
  unfold Part.timerStep
  split
  · split
    · exact .refl
    · next t _ =>
      refine .trans (.single (.reports (p := p) _ (fun h => h.expire t) ?_ fun h => ?_)) Part.arbitrate_moves
      · unfold Reporter.expire; split <;> rfl
      · unfold Reporter.expire
        split
        · simpa only [Part.occupancy, resendAll, List.length_map] using h
        · exact h
  · exact .refl

theorem Part.applyPolicy_moves (policy : LossPolicy) (lostAt : Time) : Moves p (p.applyPolicy j policy lostAt) := by
  unfold Part.applyPolicy
  split
  case h_3 hst => exact Part.holdJob_moves hst
  case h_2 hst => exact Part.endJob_moves _ _ _ (by rw [hst]; rfl)
  case h_4 hst => exact Part.endJob_moves _ _ _ (by rw [hst]; rfl)
  case h_9 hst => exact Part.endJob_moves _ _ _ (by rw [hst]; rfl)
  case h_10 hst => exact Part.endJob_moves _ _ _ (by rw [hst]; rfl)
  case h_11 hst => exact Part.endJob_moves _ _ _ (by rw [hst]; rfl)
  case h_12 hst => exact Part.endJob_moves _ _ _ (by rw [hst]; rfl)
  all_goals exact .refl

theorem Part.lossStep_moves : Moves p (p.lossStep j) := by
  unfold Part.lossStep
  split
  · exact .refl
  · next d _ =>
    refine .trans (.trans (.single (.reports (p := p) { p.reports with lossDeliveries := p.reports.lossDeliveries.erase d }
      (fun h => h.congr rfl rfl rfl rfl) rfl id)) ?_) Part.arbitrate_moves
    exact Part.applyPolicy_moves d.policy d.lostAt

/-! ### The port (R151–R160) -/

theorem Part.settleFrame_move (bytes : List Byte) : Move p (p.settleFrame bytes) := by
  unfold Part.settleFrame
  split
  · exact .other rfl rfl rfl rfl rfl rfl
  · split <;> exact .other rfl rfl rfl rfl rfl rfl

theorem Part.receiveByte_moves (b : Byte) : Moves p (p.receiveByte b) := by
  unfold Part.receiveByte
  split
  · split <;> exact .single (.other rfl rfl rfl rfl rfl rfl)
  · split <;> exact .single (.other rfl rfl rfl rfl rfl rfl)
  · split <;> exact .single (.other rfl rfl rfl rfl rfl rfl)
  · split
    · exact .head (.other (q := p.setReceiver .hunt) rfl rfl rfl rfl rfl rfl) (.single (Part.settleFrame_move _))
    · exact .single (.other rfl rfl rfl rfl rfl rfl)
  · exact .refl

theorem Part.byteStep_moves (c : RxCharacter) : Moves p (p.byteStep c) := by
  have hwait : Move p p.endHighWait := .other rfl rfl rfl rfl rfl rfl
  unfold Part.byteStep
  split
  · split
    · exact .head hwait (Part.receiveByte_moves c.data)
    · exact .single hwait
  · exact .refl

theorem Part.gapStep_moves : Moves p p.gapStep := by
  unfold Part.gapStep
  split
  · exact .single (.other rfl rfl rfl rfl rfl rfl)
  · exact .refl

theorem Part.breakStep_moves : Moves p p.breakStep := by
  unfold Part.breakStep
  split
  · dsimp only
    split <;> exact .single (.other rfl rfl rfl rfl rfl rfl)
  · exact .refl

theorem Part.breakEndStep_moves : Moves p p.breakEndStep := by
  unfold Part.breakEndStep
  split
  · split <;> exact .single (.other rfl rfl rfl rfl rfl rfl)
  · exact .refl

theorem Part.frameEndStep_moves : Moves p p.frameEndStep := by
  unfold Part.frameEndStep
  split
  · exact .refl
  · split
    · exact .refl
    · exact .head (.other (q := { p with port := { p.port with tx := .idle } }) rfl rfl rfl rfl rfl rfl) Part.arbitrate_moves

/-! ### Resets (R29, R163) -/

/-- With all jobs FREE, all cells free, no line owned and no report but those of a lawful queue, every law holds. -/
theorem Part.orderly_of_fresh (hjobs : p.jobs = Vector.replicate 32 Job.free)
    (houtputs : p.outputs = Vector.replicate 8 OutputLine.fresh) (hcells : p.cells = Vector.replicate 24 Cell.free)
    (hsched : p.schedule = []) (hdel : p.deliveries = []) (hreports : p.reports.Law) (hres : p.reports.reservations = 0)
    (hlen : p.reports.queue.length ≤ 64) : p.Orderly := by
  have hjob : ∀ j : JobId, p.jobs[j] = Job.free := fun j => by simp [hjobs]
  have hout : ∀ o : OutId, p.outputs[o] = OutputLine.fresh := fun o => by simp [houtputs]
  have hcell : ∀ c : CellId, p.cells[c] = Cell.free := fun c => by simp [hcells]
  have hcount : p.liveJobs = 0 := List.countP_eq_zero.2 fun j _ => by rw [hjob]; simp [Job.free, JobState.live]
  refine ⟨⟨fun j => by rw [hjob]; rfl, by rw [hres, hcount], by rw [hres]; exact hlen⟩, hreports, ⟨?_, ?_⟩, ?_, ?_, ?_⟩
  · rw [hsched]; exact .nil
  · rw [hsched]; exact fun e he => absurd he List.not_mem_nil
  · refine ⟨fun o j => ?_, fun o j hst => ?_⟩
    · rw [hout, hjob]; simp [OutputLine.fresh, Job.free, JobState.live]
    · rw [hjob] at hst; simp [Job.free] at hst
  · rw [Part.cellLaw_iff]
    refine ⟨fun j => ?_, fun c j => ?_, fun c _ => hcell c⟩
    · rw [hjob]; simp [Job.HoldsCells, Job.free, JobState.live]
    · rw [hcell, hjob]; simp [Cell.free, Job.free]
  · refine ⟨fun j => ?_, fun j => ?_, fun j => ?_, fun j => ?_, ?_⟩
    · rw [hjob]; simp [Job.free]
    · rw [hjob]; simp [Job.free]
    · rw [hjob]; simp [Job.free]
    · rw [hjob]; simp [Job.free]
    · rw [hdel]; exact fun d hd => absurd hd List.not_mem_nil

theorem Part.commandReset_move (inputs : BitVec 16) : Move p (p.commandReset inputs) :=
  .reset (Part.orderly_of_fresh rfl rfl rfl rfl rfl (Reporter.restarted_law _ _) rfl
    (by simp [Part.commandReset, Reporter.restarted]))

theorem Part.inReset_move (hold : ResetHold) : Move p (p.inReset hold) :=
  .reset (Part.orderly_of_fresh rfl rfl rfl rfl rfl Reporter.fresh_law rfl (by simp [Part.inReset, Reporter.fresh]))

theorem Part.complete_move (cause : ResetCause) (straps : BitVec 2) (inputs : BitVec 16) :
    Move p (p.complete cause straps inputs) :=
  .reset (Part.orderly_of_fresh rfl rfl rfl rfl rfl (Reporter.restarted_law _ _) rfl
    (by simp [Part.complete, Reporter.restarted]))

theorem Part.commandResetStep_moves (inputs : BitVec 16) : Moves p (p.commandResetStep inputs) := by
  unfold Part.commandResetStep
  split
  · exact .refl
  · split
    · exact .single (Part.commandReset_move inputs)
    · exact .refl

theorem Part.pinResetStep_moves : Moves p p.pinResetStep := by
  unfold Part.pinResetStep
  split
  case h_1 => exact .head (Part.inReset_move .pin) (.single (.other rfl rfl rfl rfl rfl rfl))
  all_goals exact .single (.other rfl rfl rfl rfl rfl rfl)

theorem Part.pinCompletionStep_moves (straps : BitVec 2) (inputs : BitVec 16) :
    Moves p (p.pinCompletionStep straps inputs) := by
  unfold Part.pinCompletionStep
  split
  case h_2 => exact .head (Part.complete_move .pin straps inputs) (.single (.other rfl rfl rfl rfl rfl rfl))
  case h_4 => exact .head (Part.complete_move .power straps inputs) (.single (.other rfl rfl rfl rfl rfl rfl))
  all_goals exact .single (.other rfl rfl rfl rfl rfl rfl)

theorem Part.powerCompletionStep_moves (straps : BitVec 2) (inputs : BitVec 16) :
    Moves p (p.powerCompletionStep straps inputs) := by
  unfold Part.powerCompletionStep
  split
  case h_1 => exact .single (Part.complete_move .power straps inputs)
  case h_2 => exact .single (.other rfl rfl rfl rfl rfl rfl)
  all_goals exact .refl

/-! ### Device time (R30, R65) -/

theorem Job.Like.age (b : Job) (now : Time) : b.Like (b.age now) := by
  unfold Job.age
  split
  · exact .refl
  · next d hd =>
    split
    case h_1 m g hw =>
      refine ⟨Eq.refl _, ?_, Eq.refl _, Eq.refl _, Eq.refl _, .inl, id⟩
      simp only [hd, Option.map_some, Definition.shape, hw]
      rfl
    all_goals exact .refl

theorem Part.advance_moves : Moves p p.advance := by
  refine .head (.records (p := p) (p.jobs.map (fun b => b.age (p.time + 1#48))) fun j => ?_)
    (.single (.other rfl rfl rfl rfl rfl rfl))
  simpa using Job.Like.age p.jobs[j] (p.time + 1#48)

end

/-! ### Every step -/

theorem Part.command_moves {p : Part} {kind : Byte} {act : Part → List Byte → Verdict}
    (h : ∀ (q : Part) (payload : List Byte), Moves q ((act q payload).part q)) : Moves p (p.command kind act) :=
  Part.intake_moves h

theorem Part.unknownKind_moves {p : Part} :
    Moves p (p.intake (fun k => !isCommandKind k) (fun _ => 0x80#8) (fun _ _ => .deny .unknownKind 0)) :=
  Part.intake_moves fun _ _ => .refl

/-- Every step that the machine executes is moves of its part. -/
theorem exec_moves {i : Instr} {s t : State} (h : exec i s = .next t) : Moves s.toPart t.toPart := by
  cases i with
  | ident => cases h; exact Part.command_moves fun q => actIdent_moves (p := q)
  | define => cases h; exact Part.command_moves fun q => actDefine_moves (p := q)
  | start => cases h; exact Part.command_moves fun q => actStart_moves (p := q)
  | stop => cases h; exact Part.command_moves fun q => actStop_moves (p := q)
  | hold => cases h; exact Part.command_moves fun q => actHold_moves (p := q)
  | resume => cases h; exact Part.command_moves fun q => actResume_moves (p := q)
  | alter => cases h; exact Part.command_moves fun q => actAlter_moves (p := q)
  | read => cases h; exact Part.command_moves fun q => actRead_moves (p := q)
  | delete => cases h; exact Part.command_moves fun q => actDelete_moves (p := q)
  | list => cases h; exact Part.command_moves fun q => actList_moves (p := q)
  | ack => cases h; exact Part.command_moves fun q => actAck_moves (p := q)
  | reconnect => cases h; exact Part.command_moves fun q => actReconnect_moves (p := q)
  | linkcfg => cases h; exact Part.command_moves fun q => actLinkcfg_moves (p := q)
  | linecfg => cases h; exact Part.command_moves fun q => actLinecfg_moves (p := q)
  | drive => cases h; exact Part.command_moves fun q => actDrive_moves (p := q)
  | sense => cases h; exact Part.command_moves fun q => actSense_moves (p := q)
  | time => cases h; exact Part.command_moves fun q => actTime_moves (p := q)
  | linkstat => cases h; exact Part.command_moves fun q => actLinkstat_moves (p := q)
  | reset => cases h; exact Part.command_moves fun q => actReset_moves (p := q)
  | unknownKind => cases h; exact Part.unknownKind_moves
  | changeUnderFiltering line level =>
    simp only [exec, execChangeUnderFiltering] at h
    split at h
    · cases h
    · cases h
      dsimp only
      split
      · exact Part.sampleLine_moves _ level
      · exact .refl
  | edgeAcceptance line =>
    simp only [exec, execEdgeAcceptance] at h
    split at h
    · cases h
    · cases h
      dsimp only
      split
      · exact Part.acceptDue_moves _
      · exact .refl
  | edgeDelivery job =>
    simp only [exec, execEdgeDelivery] at h
    split at h <;> cases h
    exact Part.deliverTo_moves
  | expiry => cases h; exact Part.deliverDue_moves fun _ _ => Part.takeExpiry_moves
  | tick => cases h; exact Part.deliverDue_moves fun _ _ => Part.takeTick_moves
  | stall => cases h; exact Part.deliverDue_moves fun _ _ => Part.takeStall_moves
  | windowEnd => cases h; exact Part.deliverDue_moves fun _ _ => Part.takeWindow_moves
  | echoDue => cases h; exact Part.deliverDue_moves fun _ _ => Part.takeEchoDue_moves
  | activePhaseEvent job =>
    simp only [exec, execActivePhaseEvent] at h
    split at h <;> cases h
    exact Part.activePhaseStep_moves
  | periodEnd job =>
    simp only [exec, execPeriodEnd] at h
    split at h <;> cases h
    exact Part.periodStep_moves
  | pulseEnd job =>
    simp only [exec, execPulseEnd] at h
    split at h <;> cases h
    exact Part.pulseStep_moves
  | turnEnd job =>
    simp only [exec, execTurnEnd] at h
    split at h <;> cases h
    exact Part.turnStep_moves
  | retransmitTimerExpiry => cases h; exact Part.timerStep_moves
  | lossPolicy job =>
    simp only [exec, execLossPolicy] at h
    split at h <;> cases h
    exact Part.lossStep_moves
  | byteReceived byte => cases h; exact Part.byteStep_moves byte
  | gapExpiry => cases h; exact Part.gapStep_moves
  | breakSeen => cases h; exact Part.breakStep_moves
  | txFrameEnd => cases h; exact Part.frameEndStep_moves
  | commandResetExecution inputs => cases h; exact Part.commandResetStep_moves inputs
  | pinReset => cases h; exact Part.pinResetStep_moves
  | pinResetCompletion straps inputs => cases h; exact Part.pinCompletionStep_moves straps inputs
  | powerOnReset => cases h; exact .single (Part.inReset_move .power)
  | powerOnResetCompletion straps inputs => cases h; exact Part.powerCompletionStep_moves straps inputs
  | breakEnd => cases h; exact Part.breakEndStep_moves
  | refclkStopped => cases h; exact .single (.other rfl rfl rfl rfl rfl rfl)
  | refclkResumed =>
    cases h
    exact .head (.other (q := { s.toPart with refclk := true }) rfl rfl rfl rfl rfl rfl) Part.arbitrate_moves

theorem idle_moves {s t : State} (h : idle s = .next t) : Moves s.toPart t.toPart := by
  unfold idle at h
  split at h
  · cases h; exact Part.arbitrate_moves
  · split at h
    · split at h <;> cases h
      · exact Part.advance_moves
      · exact .refl
    · exact exec_moves h
    · exact .head (.other (q := { s.toPart with choices := s.choices + 1 }) rfl rfl rfl rfl rfl rfl) (exec_moves h)

/-- Every step of the machine is moves of its part: what every move keeps, every step keeps. -/
theorem step_moves {s t : State} (h : step s = .next t) : Moves s.toPart t.toPart := by
  unfold step at h
  split at h
  · exact idle_moves h
  · next i rest _ => exact exec_moves (s := { s with pending := rest }) h

/-! ### The laws that every step keeps -/

/-- Settles O54: every move keeps the reservation law. -/
theorem stepKeepsReservationLaw : Obligations.StepKeepsReservationLaw :=
  fun _ _ hs h => (step_moves h).keep Move.reservationLaw hs

/-- Settles O55: every move keeps the queue law. -/
theorem stepKeepsQueueLaw : Obligations.StepKeepsQueueLaw :=
  fun _ _ hs h => (step_moves h).keep Move.queueLaw hs

/-- Settles O57: every move keeps the output law. -/
theorem stepKeepsOutputLaw : Obligations.StepKeepsOutputLaw :=
  fun _ _ hs h => (step_moves h).keep Move.outputLaw hs

/-- Settles O58: every move keeps the cell law. -/
theorem stepKeepsCellLaw : Obligations.StepKeepsCellLaw :=
  fun _ _ hs h => (step_moves h).keep Move.cellLaw hs

/-- Settles O59: every move keeps the record law. -/
theorem stepKeepsRecordLaw : Obligations.StepKeepsRecordLaw :=
  fun _ _ hs h => (step_moves h).keep Move.recordLaw hs

end Sys2Proof.Machine
end

section
/-! SUPPORT. What jobs do leaves clock, lines, port and pins as they are; and every step keeps the laws of the port. -/

namespace Sys2Proof.Machine

open Sys2Proof

/-- `q` has the device time, the clock, the resets, the input lines and the port of `p`. -/
structure Part.DeviceEq (p q : Part) : Prop where
  time : q.time = p.time
  refclk : q.refclk = p.refclk
  resetHold : q.resetHold = p.resetHold
  resetN : q.resetN = p.resetN
  inputs : q.inputs = p.inputs
  port : q.port = p.port
  choices : q.choices = p.choices

section
variable {p q r : Part} {j : JobId}

theorem Part.DeviceEq.refl : p.DeviceEq p := ⟨rfl, rfl, rfl, rfl, rfl, rfl, rfl⟩

theorem Part.DeviceEq.trans (h : p.DeviceEq q) (h' : q.DeviceEq r) : p.DeviceEq r :=
  ⟨h'.time.trans h.time, h'.refclk.trans h.refclk, h'.resetHold.trans h.resetHold, h'.resetN.trans h.resetN,
    h'.inputs.trans h.inputs, h'.port.trans h.port, h'.choices.trans h.choices⟩

theorem Part.DeviceEq.clocked (h : p.DeviceEq q) : q.clocked = p.clocked := by
  simp only [Part.clocked, h.resetHold, h.refclk]

/-! ### Endings and starts -/

theorem Part.DeviceEq.setJob (b : Job) : p.DeviceEq (p.setJob j b) := ⟨rfl, rfl, rfl, rfl, rfl, rfl, rfl⟩

theorem Part.DeviceEq.enterRunning (t : Time) : p.DeviceEq (p.enterRunning j t) := by constructor <;> simp

theorem Part.DeviceEq.grant (d : Definition) (cs : List CellId) : p.DeviceEq (p.grant j d cs) := by constructor <;> simp

theorem Part.DeviceEq.holdJob : p.DeviceEq (p.holdJob j) := by constructor <;> simp

theorem Part.DeviceEq.endSteps (cause : EndCause) (endTime : Time) (sample : Nat) :
    p.DeviceEq (p.endSteps j cause endTime sample) := by constructor <;> simp

theorem Part.DeviceEq.recordOutcome (seq : BitVec 16) (o : LinkOutcome) : p.DeviceEq (p.recordOutcome j seq o) :=
  ⟨rfl, rfl, rfl, rfl, rfl, rfl, rfl⟩

theorem Part.DeviceEq.startLink : p.DeviceEq (p.startLink j).1 := by
  unfold Part.startLink
  split
  case h_1 => exact .enterRunning _
  case h_2 =>
    split
    case h_4 => exact (Part.DeviceEq.grant _ _).trans (.enterRunning _)
    all_goals exact .refl
  case h_3 =>
    split
    case h_4 => exact (Part.DeviceEq.grant _ _).trans (.enterRunning _)
    all_goals exact .refl
  all_goals exact .refl

theorem Part.DeviceEq.endWith {stop : Part → JobId → Part} (hstop : ∀ (q : Part) (t : JobId), q.DeviceEq (stop q t))
    (cause : EndCause) (endTime : Time) (sample : Nat) : p.DeviceEq (Part.endWith stop p j cause endTime sample) := by
  obtain ⟨-, heq⟩ | ⟨r, o, heq, hr⟩ := Part.endWith_cases stop p j cause endTime sample
  · rw [heq]; exact .endSteps _ _ _
  · rw [heq]
    refine (Part.DeviceEq.endSteps (j := j) cause endTime sample).trans (Part.DeviceEq.trans (q := r) ?_ (.recordOutcome _ _))
    rcases hr with rfl | ⟨t, rfl⟩ | ⟨t, -, rfl⟩
    · exact .refl
    · exact .startLink
    · exact hstop _ t

theorem Part.DeviceEq.cascade (n : Nat) : ∀ (p : Part) (j : JobId) (cause : EndCause) (endTime : Time) (sample : Nat),
    p.DeviceEq (Part.cascade n p j cause endTime sample) := by
  induction n with
  | zero => exact fun p j cause endTime sample => .endWith (fun _ _ => .refl) cause endTime sample
  | succ n ih => exact fun p j cause endTime sample => .endWith (fun q t => ih q t .linkedStop q.time 0) cause endTime sample

theorem Part.DeviceEq.endJob (cause : EndCause) (endTime : Time) (sample : Nat) :
    p.DeviceEq (p.endJob j cause endTime sample) := Part.DeviceEq.cascade 32 p j cause endTime sample

/-! ### Commands to jobs -/

theorem Part.DeviceEq.onJob {payload : List Byte} {ok : Bool} {act : JobId → Verdict}
    (h : ∀ j, p.DeviceEq ((act j).part p)) : p.DeviceEq ((onJob payload ok act).part p) := by
  unfold Machine.onJob
  split
  · split
    · exact .refl
    · exact h _
  · exact .refl

theorem Part.DeviceEq.actDefine (payload : List Byte) : p.DeviceEq ((actDefine p payload).part p) := by
  refine .onJob fun j => ?_
  split
  · exact .refl
  · split
    · split
      · exact .refl
      · exact .refl
      · exact .setJob _
    · exact .refl

theorem Part.DeviceEq.startDefined (d : Definition) : p.DeviceEq ((p.startDefined j d).part p) := by
  unfold Part.startDefined
  split
  case h_4 cs _ =>
    refine (Part.DeviceEq.grant (j := j) d cs).trans ?_
    show (p.grant j d cs).DeviceEq (p.startGranted j d cs)
    unfold Part.startGranted
    split
    · exact .enterRunning _
    · exact .setJob _
    · exact .setJob _
  all_goals exact .refl

theorem Part.DeviceEq.actStart (payload : List Byte) : p.DeviceEq ((actStart p payload).part p) := by
  refine .onJob fun j => ?_
  split
  case h_1 => exact .startDefined _
  case h_2 => exact .startDefined _
  all_goals exact .refl

theorem Part.DeviceEq.takenEnding (cause : EndCause) : p.DeviceEq ((p.takenEnding j cause).part q) := .endJob cause p.time 0

theorem Part.DeviceEq.stopLive (finish : Bool) : p.DeviceEq ((p.stopLive j finish).part p) := by
  unfold Part.stopLive
  split
  case h_1 =>
    split
    · exact .setJob _
    · exact .takenEnding _
  all_goals exact .takenEnding _

theorem Part.DeviceEq.actStop (payload : List Byte) : p.DeviceEq ((actStop p payload).part p) := by
  refine .onJob fun j => ?_
  split
  · exact .refl
  · split
    · exact .refl
    · split
      · exact .refl
      · exact .stopLive _

theorem Part.DeviceEq.actHold (payload : List Byte) : p.DeviceEq ((actHold p payload).part p) := by
  refine .onJob fun j => ?_
  split
  · exact .holdJob
  · exact .refl

theorem Part.DeviceEq.resumeJob : p.DeviceEq (p.resumeJob j) := by
  unfold Part.resumeJob
  dsimp only
  split <;> constructor <;> simp

theorem Part.DeviceEq.actResume (payload : List Byte) : p.DeviceEq ((actResume p payload).part p) := by
  refine .onJob fun j => ?_
  split
  · exact .resumeJob
  · exact .refl

theorem Part.DeviceEq.recomputeStall (g : MeasureProgress) (highLimit : Nat) :
    p.DeviceEq ((p.recomputeStall j g highLimit).part p) := by
  unfold Part.recomputeStall
  split
  · split
    · exact .refl
    · split
      · exact .takenEnding _
      · exact ⟨rfl, rfl, rfl, rfl, rfl, rfl, rfl⟩
  · exact .refl

theorem Part.DeviceEq.alterChecked (w : Work) (payload : List Byte) :
    p.DeviceEq ((p.alterChecked j w payload).part p) := by
  cases w with
  | count c g =>
    simp only [Part.alterChecked, Part.alterCount]
    split
    · exact Part.DeviceEq.trans (.setJob _) (.endJob _ _ _)
    · exact .setJob _
  | measure m g =>
    simp only [Part.alterChecked, Part.alterMeasure]
    rw [Part.recomputeStall_part]
    exact Part.DeviceEq.trans (.setJob _) (.recomputeStall _ _)
  | delay d g => exact .refl
  | tick k g =>
    simp only [Part.alterChecked, Part.alterTick]
    split <;> exact .setJob _
  | wave v g =>
    simp only [Part.alterChecked, Part.alterWave]
    split <;> exact .setJob _
  | echo e g => exact .setJob _

theorem Part.DeviceEq.actAlter (payload : List Byte) : p.DeviceEq ((actAlter p payload).part p) := by
  refine .onJob fun j => ?_
  split
  · exact .refl
  · exact .refl
  · split
    · exact .refl
    · split
      · exact .refl
      · exact .alterChecked _ _

theorem Part.DeviceEq.actRead (payload : List Byte) : p.DeviceEq ((actRead p payload).part p) := by
  refine .onJob fun j => ?_
  split <;> exact .refl

theorem Part.DeviceEq.actDelete (payload : List Byte) : p.DeviceEq ((actDelete p payload).part p) := by
  refine .onJob fun j => ?_
  split
  case h_1 => exact .setJob _
  case h_2 => exact .setJob _
  all_goals exact .refl

theorem Part.DeviceEq.actList (payload : List Byte) : p.DeviceEq ((actList p payload).part p) := by
  unfold Machine.actList
  split <;> exact .refl

/-! ### Other commands -/

theorem Part.DeviceEq.actIdent (payload : List Byte) : p.DeviceEq ((actIdent p payload).part p) := by
  unfold Machine.actIdent
  split <;> exact .refl

theorem Part.DeviceEq.actTime (payload : List Byte) : p.DeviceEq ((actTime p payload).part p) := by
  unfold Machine.actTime
  split <;> exact .refl

theorem Part.DeviceEq.actSense (payload : List Byte) : p.DeviceEq ((actSense p payload).part p) := by
  unfold Machine.actSense
  split <;> exact .refl

theorem Part.DeviceEq.setReports (r : Reporter) : p.DeviceEq { p with reports := r } := ⟨rfl, rfl, rfl, rfl, rfl, rfl, rfl⟩

theorem Part.DeviceEq.actAck (payload : List Byte) : p.DeviceEq ((actAck p payload).part p) := by
  unfold Machine.actAck
  split
  · split
    · exact .setReports _
    · split <;> exact .refl
  · exact .refl

theorem Part.DeviceEq.actReconnect (payload : List Byte) : p.DeviceEq ((actReconnect p payload).part p) := by
  unfold Machine.actReconnect
  split
  · exact .setReports _
  · exact .refl

theorem Part.DeviceEq.actLinkcfg (payload : List Byte) : p.DeviceEq ((actLinkcfg p payload).part p) := by
  unfold Machine.actLinkcfg
  split
  · split
    · exact .refl
    · exact .refl
    · exact .setReports _
  · exact .refl

theorem Part.DeviceEq.actDrive (payload : List Byte) : p.DeviceEq ((actDrive p payload).part p) := by
  unfold Machine.actDrive
  split
  · split
    · exact .refl
    · exact .refl
    · split
      · exact .refl
      · exact ⟨rfl, rfl, rfl, rfl, rfl, rfl, rfl⟩
  · exact .refl

theorem actLinecfg_port (payload : List Byte) : ((actLinecfg p payload).part p).port = p.port := by
  unfold Machine.actLinecfg
  split
  · split
    · rfl
    · split <;> rfl
  · rfl

/-! ### The port law: replies and intakes -/

theorem Port.Law.dropFrame (h : p.port.Law) : p.dropFrame.port.Law := by
  obtain ⟨hframe, hgap, hclosed, hbuffer, hrest⟩ := h
  exact ⟨hframe, hgap, hclosed, by simp only [Part.dropFrame, List.length_tail]; omega, hrest⟩

/-- A reply has its place when fewer than 4 wait (R159). -/
theorem Port.Law.appendReply (f : Frame) (h : p.port.Law) (hfew : p.port.replies.length < 4) :
    (p.appendReply f).port.Law := by
  obtain ⟨hframe, hgap, hclosed, hbuffer, -, herrors⟩ := h
  exact ⟨hframe, hgap, hclosed, hbuffer, by simp only [Part.appendReply, List.length_append, List.length_singleton]; omega,
    herrors⟩

theorem Port.Law.arbitrate (h : p.port.Law) : p.arbitrate.port.Law := by
  obtain ⟨hframe, hgap, hclosed, hbuffer, hreplies, herrors⟩ := h
  obtain heq | ⟨f, rest, -, -, hr, heq⟩ | ⟨e, -, -, -, -, heq⟩ := p.arbitrate_cases
  · rw [heq]; exact ⟨hframe, hgap, hclosed, hbuffer, hreplies, herrors⟩
  · rw [heq]
    rw [hr] at hreplies
    exact ⟨hframe, hgap, hclosed, hbuffer, (Nat.le_succ _).trans hreplies, herrors⟩
  · rw [heq]; exact ⟨hframe, hgap, hclosed, hbuffer, hreplies, herrors⟩

/-- An act that keeps the laws of the port and its replies gives an intake that does. -/
theorem Part.intake_portLaw {isKind : Byte → Bool} {replyKind : Byte → Byte} {act : Part → List Byte → Verdict}
    (hact : ∀ (q : Part) (payload : List Byte), q.port.Law → q.port.resetPending = false →
      ((act q payload).part q).port.Law ∧ ((act q payload).part q).port.replies = q.port.replies)
    (h : p.port.Law) : (p.intake isKind replyKind act).port.Law := by
  unfold Part.intake
  split
  · exact h
  · next f hf =>
    split
    · obtain ⟨hfew, hopen, -⟩ := Part.frameToTake_cases hf
      obtain ⟨hlaw, hreplies⟩ := hact p.dropFrame f.payload h.dropFrame hopen
      refine .arbitrate (.appendReply _ hlaw ?_)
      rw [hreplies]
      exact hfew
    · exact h

/-- A command that leaves the port as it was. -/
theorem Part.command_portLaw {kind : Byte} {act : Part → List Byte → Verdict}
    (hact : ∀ (q : Part) (payload : List Byte), ((act q payload).part q).port = q.port) (h : p.port.Law) :
    (p.command kind act).port.Law :=
  Part.intake_portLaw (fun q payload hq _ => by rw [hact]; exact ⟨hq, rfl⟩) h

theorem Port.Law.errors {e : ErrorCounters} {f : Port} (h : p.port.Law) (hf : f = { p.port with errors := e })
    (he : e.noise ≤ 65535 ∧ e.badFrameLength ≤ 65535 ∧ e.gap ≤ 65535 ∧ e.crc ≤ 65535 ∧ e.breaks ≤ 65535 ∧
      e.overrun ≤ 65535) : f.Law := by
  obtain ⟨hframe, hgap, hclosed, hbuffer, hreplies, -⟩ := h
  subst hf
  exact ⟨hframe, hgap, hclosed, hbuffer, hreplies, he⟩

theorem actLinkstat_portLaw (payload : List Byte) (h : p.port.Law) :
    ((actLinkstat p payload).part p).port.Law ∧ ((actLinkstat p payload).part p).port.replies = p.port.replies := by
  unfold actLinkstat
  split
  · split
    · exact ⟨h, rfl⟩
    · exact ⟨h.errors rfl (by simp [ErrorCounters.zero]), rfl⟩
    · exact ⟨h, rfl⟩
  · exact ⟨h, rfl⟩

/-- RESET closes the receiver and has the reset await execution (R162). -/
theorem actReset_portLaw (payload : List Byte) (h : p.port.Law) :
    ((actReset p payload).part p).port.Law ∧ ((actReset p payload).part p).port.replies = p.port.replies := by
  unfold actReset
  split
  · obtain ⟨-, -, -, hbuffer, hreplies, herrors⟩ := h
    exact ⟨⟨by simp [Verdict.part, Part.setReceiver, RxState.inFrame], by simp [Verdict.part, Part.setReceiver, RxState.inFrame],
      by simp [Verdict.part, Part.setReceiver], hbuffer, hreplies, herrors⟩, rfl⟩
  · exact ⟨h, rfl⟩

/-! ### The receiver -/

/-- The receiver returns to HUNT from a state other than CLOSED. -/
theorem Port.Law.hunt (h : p.port.Law) (hopen : p.port.rxState ≠ .closed) : (p.setReceiver .hunt).port.Law := by
  obtain ⟨-, -, hclosed, hbuffer, hreplies, herrors⟩ := h
  exact ⟨by simp [Part.setReceiver, RxState.inFrame], by simp [Part.setReceiver, RxState.inFrame],
    by simp [Part.setReceiver, hclosed, hopen], hbuffer, hreplies, herrors⟩

theorem Port.Law.takeByte {st : RxState} (f : RxFrame) (h : p.port.Law) (hopen : p.port.rxState ≠ .closed)
    (hin : st.inFrame = true) : (p.takeByte st f).port.Law := by
  obtain ⟨-, -, hclosed, hbuffer, hreplies, herrors⟩ := h
  have hst : st ≠ .closed := by rintro rfl; cases hin
  exact ⟨by simp [Part.takeByte, hin], by simp [Part.takeByte, hin], by simp [Part.takeByte, hclosed, hopen, hst],
    hbuffer, hreplies, herrors⟩

/-- One of the counters rises, saturating at 65,535 (R158). -/
theorem Port.Law.setErrors {e : ErrorCounters} (h : p.port.Law)
    (he : e.noise ≤ 65535 ∧ e.badFrameLength ≤ 65535 ∧ e.gap ≤ 65535 ∧ e.crc ≤ 65535 ∧ e.breaks ≤ 65535 ∧
      e.overrun ≤ 65535) : (p.setErrors e).port.Law := h.errors rfl he

theorem Port.Law.settleFrame (bytes : List Byte) (h : p.port.Law) : (p.settleFrame bytes).port.Law := by
  obtain ⟨hframe, hgap, hclosed, hbuffer, hreplies, h1, h2, h3, h4, h5, h6⟩ := h
  have hlaw : p.port.Law := ⟨hframe, hgap, hclosed, hbuffer, hreplies, h1, h2, h3, h4, h5, h6⟩
  unfold Part.settleFrame
  split
  · exact hlaw.setErrors ⟨h1, h2, h3, satSucc_le _ _ h4, h5, h6⟩
  · split
    · exact hlaw.setErrors ⟨h1, h2, h3, h4, h5, satSucc_le _ _ h6⟩
    · next hroom =>
      exact ⟨hframe, hgap, hclosed, by simp only [List.length_append, List.length_singleton]; omega, hreplies, h1, h2, h3, h4,
        h5, h6⟩

theorem Port.Law.receiveByte (b : Byte) (h : p.port.Law) : (p.receiveByte b).port.Law := by
  obtain ⟨-, -, -, -, -, h1, h2, h3, h4, h5, h6⟩ := id h
  unfold Part.receiveByte
  split
  case h_1 hst =>
    split
    · exact h.takeByte _ (by rw [hst]; simp) rfl
    · exact h.setErrors ⟨satSucc_le _ _ h1, h2, h3, h4, h5, h6⟩
  case h_2 hst =>
    have hopen : p.port.rxState ≠ .closed := by rw [hst]; simp
    split
    · exact h.takeByte _ hopen rfl
    · exact (h.hunt hopen).setErrors ⟨h1, satSucc_le _ _ h2, h3, h4, h5, h6⟩
  case h_3 hst =>
    have hopen : p.port.rxState ≠ .closed := by rw [hst]; simp
    split
    · exact h.takeByte _ hopen rfl
    · exact h.takeByte _ hopen rfl
  case h_4 hst =>
    have hopen : p.port.rxState ≠ .closed := by rw [hst]; simp
    split
    · exact (h.hunt hopen).settleFrame _
    · exact h.takeByte _ hopen rfl
  case h_5 => exact h

theorem Port.Law.byteStep (c : RxCharacter) (h : p.port.Law) : (p.byteStep c).port.Law := by
  have hwait : p.endHighWait.port.Law := h
  unfold Part.byteStep
  split
  · split
    · exact hwait.receiveByte c.data
    · exact hwait
  · exact h

theorem Part.gapDue_inFrame (h : p.gapDue = true) : p.port.rxState.inFrame = true := by
  unfold Part.gapDue at h
  split at h
  case h_1 hst => rw [hst]; rfl
  case h_2 hst => rw [hst]; rfl
  case h_3 hst => rw [hst]; rfl
  all_goals cases h

theorem Port.Law.gapStep (h : p.port.Law) : p.gapStep.port.Law := by
  obtain ⟨-, -, -, -, -, h1, h2, h3, h4, h5, h6⟩ := id h
  unfold Part.gapStep
  split
  · next hdue =>
    have hin := Part.gapDue_inFrame hdue
    refine (h.hunt ?_).setErrors ⟨h1, h2, satSucc_le _ _ h3, h4, h5, h6⟩
    intro hst
    rw [hst] at hin
    cases hin
  · exact h

theorem Port.Law.breakStep (h : p.port.Law) : p.breakStep.port.Law := by
  obtain ⟨-, -, -, -, -, h1, h2, h3, h4, h5, h6⟩ := id h
  have hbreak : (p.setBreak true).port.Law := h
  unfold Part.breakStep
  split
  · dsimp only
    split
    · exact hbreak
    · next hopen =>
      refine (hbreak.hunt ?_).setErrors ⟨h1, h2, h3, h4, satSucc_le _ _ h5, h6⟩
      intro hst
      exact hopen (by simp [show p.port.rxState = .closed from hst])
  · exact h

theorem Port.Law.breakEndStep (h : p.port.Law) : p.breakEndStep.port.Law := by
  unfold Part.breakEndStep
  split
  · split <;> exact h
  · exact h

theorem Port.Law.frameEndStep (h : p.port.Law) : p.frameEndStep.port.Law := by
  unfold Part.frameEndStep
  split
  · exact h
  · split
    · exact h
    · exact Port.Law.arbitrate (p := { p with port := { p.port with tx := .idle } }) h

/-! ### Resets -/

theorem Port.fresh_law (baud : Baud) (ready : Option Time) (inBreak : Bool) :
    Port.Law { Port.fresh baud ready with inBreak := inBreak } := by
  simp [Port.Law, Port.fresh, ErrorCounters.zero, RxState.inFrame]

theorem Port.Law.commandResetStep (inputs : BitVec 16) (h : p.port.Law) : (p.commandResetStep inputs).port.Law := by
  unfold Part.commandResetStep
  split
  · exact h
  · split
    · exact Port.fresh_law _ _ _
    · exact h

theorem Port.Law.pinResetStep (h : p.port.Law) : p.pinResetStep.port.Law := by
  unfold Part.pinResetStep
  split
  case h_1 => exact Port.fresh_law _ _ _
  all_goals exact h

theorem Port.Law.pinCompletionStep (straps : BitVec 2) (inputs : BitVec 16) (h : p.port.Law) :
    (p.pinCompletionStep straps inputs).port.Law := by
  unfold Part.pinCompletionStep
  split
  case h_2 => exact Port.fresh_law _ _ _
  case h_4 => exact Port.fresh_law _ _ _
  all_goals exact h

theorem Port.Law.powerCompletionStep (straps : BitVec 2) (inputs : BitVec 16) (h : p.port.Law) :
    (p.powerCompletionStep straps inputs).port.Law := by
  unfold Part.powerCompletionStep
  split
  case h_1 => exact Port.fresh_law _ _ _
  all_goals exact h

/-! ### Edges and events of jobs -/

theorem Part.DeviceEq.offer (time : Time) (content : ReportContent) : p.DeviceEq (p.offer j time content) := by
  constructor <;> simp

theorem Part.DeviceEq.countUp : p.DeviceEq (p.countUp j) := by constructor <;> simp

theorem Part.DeviceEq.takeCountEdge (c : CountParams) (g : CountProgress) (acceptedIn : JobState) (e : Edge) :
    p.DeviceEq (p.takeCountEdge j c g acceptedIn e) := by
  unfold Part.takeCountEdge
  split
  · split
    · unfold Part.countEdge
      split
      · exact .endJob _ _ _
      · dsimp only
        split
        · exact Part.DeviceEq.countUp.trans (.endJob _ _ _)
        · split
          · exact Part.DeviceEq.countUp.trans (.offer _ _)
          · exact .countUp
    · exact .setJob _
  · exact .refl

theorem Part.DeviceEq.acceptSample (m : MeasureParams) (g : MeasureProgress) (sample : Nat) (t : Time) :
    p.DeviceEq (p.acceptSample j m g sample t) := by
  unfold Part.acceptSample
  dsimp only
  split
  · exact Part.DeviceEq.trans (.setJob _) (.offer _ _)
  · exact .setJob _

theorem Part.DeviceEq.openInterval (m : MeasureParams) (g : MeasureProgress) (t : Time) :
    p.DeviceEq (p.openInterval j m g t) := by
  unfold Part.openInterval
  dsimp only
  split <;> exact ⟨rfl, rfl, rfl, rfl, rfl, rfl, rfl⟩

theorem Part.DeviceEq.unschedule : p.DeviceEq (p.unschedule j) := ⟨rfl, rfl, rfl, rfl, rfl, rfl, rfl⟩

theorem Part.DeviceEq.periodEdge (m : MeasureParams) (g : MeasureProgress) (t : Time) :
    p.DeviceEq (p.periodEdge j m g t) := by
  unfold Part.periodEdge
  split
  · exact .openInterval _ _ _
  · split
    · exact .endJob _ _ _
    · exact Part.DeviceEq.trans (.acceptSample _ _ _ _) (.openInterval _ _ _)

theorem Part.DeviceEq.closingEdge (m : MeasureParams) (g : MeasureProgress) (t : Time) :
    p.DeviceEq (p.closingEdge j m g t) := by
  unfold Part.closingEdge
  split
  · exact .refl
  · split
    · exact Part.DeviceEq.unschedule.trans (.endJob _ _ _)
    · exact Part.DeviceEq.unschedule.trans (.acceptSample _ _ _ _)

theorem Part.DeviceEq.openingEdge (m : MeasureParams) (g : MeasureProgress) (t : Time) :
    p.DeviceEq (p.openingEdge j m g t) := by
  unfold Part.openingEdge
  split
  · exact .openInterval _ _ _
  · exact .refl

theorem Part.DeviceEq.windowEdge (sel : EdgeSelect) (e : Edge) : p.DeviceEq (p.windowEdge j sel e) := by
  unfold Part.windowEdge
  split
  · split
    · exact .endJob _ _ _
    · exact .countUp
  · exact .refl

theorem Part.DeviceEq.takeMeasureEdge (m : MeasureParams) (g : MeasureProgress) (e : Edge) :
    p.DeviceEq (p.takeMeasureEdge j m g e) := by
  unfold Part.takeMeasureEdge
  split
  case h_1 => exact .periodEdge _ _ _
  case h_2 => exact .refl
  case h_3 => exact .openingEdge _ _ _
  case h_4 => exact .closingEdge _ _ _
  case h_5 => exact .openingEdge _ _ _
  case h_6 => exact .closingEdge _ _ _
  case h_7 => exact .windowEdge _ _

theorem Part.DeviceEq.joinEcho (e : EchoParams) (g : EchoProgress) (x : Edge) : p.DeviceEq (p.joinEcho j e g x) := by
  unfold Part.joinEcho
  dsimp only
  split <;> exact ⟨rfl, rfl, rfl, rfl, rfl, rfl, rfl⟩

theorem Part.DeviceEq.takeEchoEdge (e : EchoParams) (g : EchoProgress) (x : Edge) :
    p.DeviceEq (p.takeEchoEdge j e g x) := by
  unfold Part.takeEchoEdge
  split
  · unfold Part.overlapEcho
    split
    · split
      · exact .joinEcho _ _ _
      · exact .setJob _
    · split
      · exact .joinEcho _ _ _
      · exact Part.DeviceEq.unschedule.trans (.joinEcho _ _ _)
    · split
      · exact .joinEcho _ _ _
      · exact .setJob _
  · exact .refl

theorem Part.DeviceEq.takeEdge (acceptedIn : JobState) (e : Edge) : p.DeviceEq (p.takeEdge j acceptedIn e) := by
  unfold Part.takeEdge
  split
  · exact .refl
  · next d _ =>
    split
    case h_1 =>
      split
      · split
        · exact .enterRunning _
        · exact .refl
      · exact .refl
      · exact .refl
    case h_2 =>
      split
      · cases d.work with
        | count c g => exact .takeCountEdge _ _ _ _
        | measure m g => exact .takeMeasureEdge _ _ _
        | delay d g => exact .refl
        | tick k g => exact .refl
        | wave w g => exact .refl
        | echo x g => exact .takeEchoEdge _ _ _
      · exact .refl
    all_goals exact .refl

theorem Part.DeviceEq.takeExpiry (due : Time) : p.DeviceEq (p.takeExpiry j due) := by
  unfold Part.takeExpiry
  split
  · exact .endJob _ _ _
  · exact .refl

theorem Part.DeviceEq.takeStall (due : Time) : p.DeviceEq (p.takeStall j due) := by
  unfold Part.takeStall
  split
  · exact .endJob _ _ _
  · exact .refl

theorem Part.DeviceEq.nextTick (k : TickParams) (g : TickProgress) (due : Time) : p.DeviceEq (p.nextTick j k g due) := by
  unfold Part.nextTick
  split <;> exact ⟨rfl, rfl, rfl, rfl, rfl, rfl, rfl⟩

theorem Part.DeviceEq.offerTick (number : BitVec 32) (time : Time) : p.DeviceEq (p.offerTick j number time) := by
  constructor <;> simp

theorem Part.DeviceEq.takeTick (due : Time) : p.DeviceEq (p.takeTick j due) := by
  unfold Part.takeTick
  split
  · unfold Part.runningTick
    dsimp only
    split
    · exact Part.DeviceEq.trans (.setJob _) (.endJob _ _ _)
    · exact Part.DeviceEq.trans (.setJob _) (Part.DeviceEq.trans (.offerTick _ _) (.nextTick _ _ _))
  · exact Part.DeviceEq.trans (.setJob _) (.endJob _ _ _)
  · exact .refl

theorem Part.DeviceEq.beginMeasure (m : MeasureParams) (g : MeasureProgress) (t : Time) :
    p.DeviceEq (p.beginMeasure j m g t) := by constructor <;> simp

theorem Part.DeviceEq.takeWindow (due : Time) : p.DeviceEq (p.takeWindow j due) := by
  unfold Part.takeWindow
  split
  · unfold Part.closeWindow
    split
    · exact .endJob _ _ _
    · exact Part.DeviceEq.trans (.acceptSample _ _ _ _) (.beginMeasure _ _ _)
  · exact .refl

theorem Part.DeviceEq.beginPulse (e : EchoParams) (g : EchoProgress) (t : Time) : p.DeviceEq (p.beginPulse j e g t) := by
  unfold Part.beginPulse
  split
  · exact .refl
  · dsimp only
    split <;> constructor <;> simp

theorem Part.DeviceEq.takeEchoDue (due : Time) : p.DeviceEq (p.takeEchoDue j due) := by
  have hdue : ∀ e g, p.DeviceEq (p.echoDueAt j e g due) := by
    intro e g
    unfold Part.echoDueAt
    split
    · exact .beginPulse _ _ _
    · split
      · exact Part.DeviceEq.trans (.setJob _) (.endJob _ _ _)
      · exact .beginPulse _ _ _
  unfold Part.takeEchoDue
  split
  · exact hdue _ _
  · exact hdue _ _
  · exact .refl

theorem Part.DeviceEq.endPulse (e : EchoParams) (g : EchoProgress) (t : Time) : p.DeviceEq (p.endPulse j e g t) := by
  have hset : p.DeviceEq ((p.setWork j (.echo e g.counted)).setPhase j none) := by constructor <;> simp
  have hidle : ∀ q : Part, q.DeviceEq (q.driveIdle j) := fun q => by constructor <;> simp
  unfold Part.endPulse
  dsimp only
  split
  · exact hset.trans (.endJob _ _ _)
  · split
    · split
      · exact hset.trans (.endJob _ _ _)
      · exact hset.trans (hidle _)
    · split
      · exact hset.trans (Part.DeviceEq.unschedule.trans (.beginPulse _ _ _))
      · exact hset.trans (hidle _)

theorem Part.DeviceEq.endPeriod (w : WaveParams) (g : WaveProgress) (t : Time) : p.DeviceEq (p.endPeriod j w g t) := by
  unfold Part.endPeriod
  dsimp only
  split
  · exact Part.DeviceEq.trans (.setJob _) (.endJob _ _ _)
  · split
    · exact Part.DeviceEq.trans (.setJob _) (.endJob _ _ _)
    · constructor <;> simp

theorem Part.DeviceEq.applyPolicy (policy : LossPolicy) (lostAt : Time) :
    p.DeviceEq (p.applyPolicy j policy lostAt) := by
  unfold Part.applyPolicy
  split
  case h_3 => exact .holdJob
  case h_2 => exact .endJob _ _ _
  case h_4 => exact .endJob _ _ _
  case h_9 => exact .endJob _ _ _
  case h_10 => exact .endJob _ _ _
  case h_11 => exact .endJob _ _ _
  case h_12 => exact .endJob _ _ _
  all_goals exact .refl

/-! ### Every step -/

theorem Part.DeviceEq.portLaw (h : p.DeviceEq q) (hp : p.port.Law) : q.port.Law := h.port ▸ hp

theorem Part.acceptDue_port (i : InId) : (p.acceptDue i).port = p.port := by
  unfold Part.acceptDue
  split
  · rfl
  · split <;> rfl

theorem Part.compareSample_port (i : InId) (level : Level) : (p.compareSample i level).port = p.port := by
  unfold Part.compareSample
  split
  · rfl
  · split
    · rfl
    · split <;> rfl

theorem Part.deliverDue_portLaw {purpose : Purpose} {act : Part → JobId → Time → Part}
    (hact : ∀ (q : Part) (j : JobId) (due : Time), q.DeviceEq (act q j due)) (h : p.port.Law) :
    (p.deliverDue purpose act).port.Law := by
  unfold Part.deliverDue
  split
  · exact h
  · next e _ => exact Port.Law.arbitrate ((hact p.popEntry e.job e.due).portLaw h)

end

theorem exec_portLaw {i : Instr} {s t : State} (hs : s.port.Law) (h : exec i s = .next t) : t.port.Law := by
  cases i with
  | ident => cases h; exact Part.command_portLaw (fun q payload => (Part.DeviceEq.actIdent payload).port) hs
  | define => cases h; exact Part.command_portLaw (fun q payload => (Part.DeviceEq.actDefine payload).port) hs
  | start => cases h; exact Part.command_portLaw (fun q payload => (Part.DeviceEq.actStart payload).port) hs
  | stop => cases h; exact Part.command_portLaw (fun q payload => (Part.DeviceEq.actStop payload).port) hs
  | hold => cases h; exact Part.command_portLaw (fun q payload => (Part.DeviceEq.actHold payload).port) hs
  | resume => cases h; exact Part.command_portLaw (fun q payload => (Part.DeviceEq.actResume payload).port) hs
  | alter => cases h; exact Part.command_portLaw (fun q payload => (Part.DeviceEq.actAlter payload).port) hs
  | read => cases h; exact Part.command_portLaw (fun q payload => (Part.DeviceEq.actRead payload).port) hs
  | delete => cases h; exact Part.command_portLaw (fun q payload => (Part.DeviceEq.actDelete payload).port) hs
  | list => cases h; exact Part.command_portLaw (fun q payload => (Part.DeviceEq.actList payload).port) hs
  | ack => cases h; exact Part.command_portLaw (fun q payload => (Part.DeviceEq.actAck payload).port) hs
  | reconnect => cases h; exact Part.command_portLaw (fun q payload => (Part.DeviceEq.actReconnect payload).port) hs
  | linkcfg => cases h; exact Part.command_portLaw (fun q payload => (Part.DeviceEq.actLinkcfg payload).port) hs
  | linecfg => cases h; exact Part.command_portLaw (fun q payload => actLinecfg_port payload) hs
  | drive => cases h; exact Part.command_portLaw (fun q payload => (Part.DeviceEq.actDrive payload).port) hs
  | sense => cases h; exact Part.command_portLaw (fun q payload => (Part.DeviceEq.actSense payload).port) hs
  | time => cases h; exact Part.command_portLaw (fun q payload => (Part.DeviceEq.actTime payload).port) hs
  | linkstat =>
    cases h
    exact Part.intake_portLaw (isKind := fun k => decide (k = 0x12#8)) (fun q payload hq _ => actLinkstat_portLaw payload hq) hs
  | reset =>
    cases h
    exact Part.intake_portLaw (isKind := fun k => decide (k = 0x13#8)) (fun q payload hq _ => actReset_portLaw payload hq) hs
  | unknownKind =>
    cases h
    exact Part.intake_portLaw (act := fun _ _ => .deny .unknownKind 0) (fun q payload hq _ => ⟨hq, rfl⟩) hs
  | changeUnderFiltering line level =>
    simp only [exec, execChangeUnderFiltering] at h
    split at h
    · cases h
    · cases h
      dsimp only
      split
      · rw [Part.sampleLine, Part.compareSample_port, Part.acceptDue_port]; exact hs
      · exact hs
  | edgeAcceptance line =>
    simp only [exec, execEdgeAcceptance] at h
    split at h
    · cases h
    · cases h
      dsimp only
      split
      · rw [Part.acceptDue_port]; exact hs
      · exact hs
  | edgeDelivery job =>
    simp only [exec, execEdgeDelivery] at h
    split at h <;> cases h
    simp only [Part.deliverTo]
    split
    · exact hs
    · next d _ =>
      refine Port.Law.arbitrate ((Part.DeviceEq.takeEdge d.acceptedIn d.edge).portLaw ?_)
      exact hs
  | expiry => cases h; exact Part.deliverDue_portLaw (fun _ _ => .takeExpiry) hs
  | tick => cases h; exact Part.deliverDue_portLaw (fun _ _ => .takeTick) hs
  | stall => cases h; exact Part.deliverDue_portLaw (fun _ _ => .takeStall) hs
  | windowEnd => cases h; exact Part.deliverDue_portLaw (fun _ _ => .takeWindow) hs
  | echoDue => cases h; exact Part.deliverDue_portLaw (fun _ _ => .takeEchoDue) hs
  | activePhaseEvent job =>
    simp only [exec, execActivePhaseEvent] at h
    split at h <;> cases h
    simp only [Part.activePhaseStep]
    split
    · exact hs
    · simpa [Part.endActivePhase] using hs
  | periodEnd job =>
    simp only [exec, execPeriodEnd] at h
    split at h <;> cases h
    simp only [Part.periodStep]
    split
    · exact hs
    · exact Port.Law.arbitrate ((Part.DeviceEq.endPeriod _ _ _).portLaw hs)
  | pulseEnd job =>
    simp only [exec, execPulseEnd] at h
    split at h <;> cases h
    simp only [Part.pulseStep]
    split
    · exact hs
    · exact Port.Law.arbitrate ((Part.DeviceEq.endPulse _ _ _).portLaw hs)
  | turnEnd job =>
    simp only [exec, execTurnEnd] at h
    split at h <;> cases h
    simp only [Part.turnStep]
    split <;> exact hs
  | retransmitTimerExpiry =>
    cases h
    simp only [Part.timerStep]
    split
    · split
      · exact hs
      · next t _ => exact Port.Law.arbitrate (p := { s.toPart with reports := s.reports.expire t }) hs
    · exact hs
  | lossPolicy job =>
    simp only [exec, execLossPolicy] at h
    split at h <;> cases h
    simp only [Part.lossStep]
    split
    · exact hs
    · next d _ =>
      refine Port.Law.arbitrate ((Part.DeviceEq.applyPolicy d.policy d.lostAt).portLaw ?_)
      exact hs
  | byteReceived byte => cases h; exact hs.byteStep byte
  | gapExpiry => cases h; exact hs.gapStep
  | breakSeen => cases h; exact hs.breakStep
  | txFrameEnd => cases h; exact hs.frameEndStep
  | commandResetExecution inputs => cases h; exact hs.commandResetStep inputs
  | pinReset => cases h; exact hs.pinResetStep
  | pinResetCompletion straps inputs => cases h; exact hs.pinCompletionStep straps inputs
  | powerOnReset => cases h; exact Port.fresh_law _ _ _
  | powerOnResetCompletion straps inputs => cases h; exact hs.powerCompletionStep straps inputs
  | breakEnd => cases h; exact hs.breakEndStep
  | refclkStopped => cases h; exact hs
  | refclkResumed => cases h; exact Port.Law.arbitrate (p := { s.toPart with refclk := true }) hs

/-- Settles O60, row by row. -/
theorem stepKeepsPortLaw : Obligations.StepKeepsPortLaw := by
  intro s t hs h
  unfold step at h
  split at h
  · unfold idle at h
    split at h
    · cases h; exact Port.Law.arbitrate hs
    · split at h
      · split at h <;> cases h <;> exact hs
      · exact exec_portLaw hs h
      · exact exec_portLaw (s := { s with choices := s.choices + 1 }) hs h
  · next i rest _ => exact exec_portLaw (s := { s with pending := rest }) hs h

end Sys2Proof.Machine
end

section
/-! SUPPORT. R159, R165 and R166: every row of a command, the fields of its payload, and the one reply of its intake. -/

namespace Sys2Proof.Machine

open Sys2Proof

/-! ### Fields of several bytes (R165) -/

theorem foldl_beNat (bytes : List Byte) (n : Nat) :
    bytes.foldl (fun n b => n * 256 + b.toNat) n = n * 256 ^ bytes.length + beNat bytes := by
  induction bytes generalizing n with
  | nil => simp [beNat]
  | cons x xs ih =>
    rw [beNat, List.foldl_cons, List.foldl_cons, ih, ih (0 * 256 + x.toNat), List.length_cons, pow_succ]
    ring

theorem beNat_cons (b : Byte) (bytes : List Byte) : beNat (b :: bytes) = b.toNat * 256 ^ bytes.length + beNat bytes := by
  rw [beNat, List.foldl_cons, foldl_beNat]
  simp

theorem beNat_beBytes (width v : Nat) : beNat (beBytes width v) = v % 256 ^ width := by
  induction width with
  | zero => simp [beBytes, beNat, Nat.mod_one]
  | succ w ih =>
    rw [beBytes, beNat_cons, ih, beBytes_length, BitVec.toNat_ofNat, pow_succ 256 w, Nat.mod_mul (a := 256 ^ w) (b := 256)]
    ring

/-- A field that fits its width is read back as it was written. -/
theorem field_beBytes {width v : Nat} (h : v < 256 ^ width) (rest : List Byte) :
    field (beBytes width v ++ rest) 0 width = v := by
  rw [field, List.drop_zero, List.take_left' (beBytes_length width v), beNat_beBytes, Nat.mod_eq_of_lt h]

theorem field_beBytes_last {width v : Nat} (h : v < 256 ^ width) : field (beBytes width v) 0 width = v := by
  simpa using field_beBytes h []

/-- What stands behind a field is read without it. -/
theorem field_skip {width offset : Nat} (v : Nat) (rest : List Byte) (h : width ≤ offset) (n : Nat) :
    field (beBytes width v ++ rest) offset n = field rest (offset - width) n := by
  rw [field, field, List.drop_append, beBytes_length, List.drop_eq_nil_of_le (by rwa [beBytes_length]), List.nil_append]

/-! ### The job that a command names (R5) -/

theorem jobNumber_byte (j : JobId) : (BitVec.ofNat 8 (j.val + 1)).toNat = j.val + 1 := by
  have := j.isLt
  rw [BitVec.toNat_ofNat]
  omega

theorem onJob_badLength (payload : List Byte) (act : JobId → Verdict) : onJob payload false act = .deny .badLength 0 := rfl

theorem onJob_badJob {b : Byte} (h : b.toNat = 0 ∨ 32 < b.toNat) (rest : List Byte) (act : JobId → Verdict) :
    onJob (b :: rest) true act = .deny .badJob 0 := by
  have hnone : jobOfNumber b.toNat = none := by
    have hbad : jobNumberOk b.toNat = false := by
      simp only [jobNumberOk, Bool.and_eq_false_imp, decide_eq_true_eq, decide_eq_false_iff_not]
      omega
    rw [jobOfNumber, hbad]
    rfl
  simp [onJob, hnone]

theorem onJob_job {b : Byte} {j : JobId} (h : b.toNat = j.val + 1) (rest : List Byte) (act : JobId → Verdict) :
    onJob (b :: rest) true act = act j := by
  simp [onJob, h]

/-! ### The rows of the commands (R165) -/

theorem identRow : CommandRow .ident 0x01#8 actIdent := fun _ => rfl
theorem defineRow : CommandRow .define 0x02#8 actDefine := fun _ => rfl
theorem startRow : CommandRow .start 0x03#8 actStart := fun _ => rfl
theorem stopRow : CommandRow .stop 0x04#8 actStop := fun _ => rfl
theorem holdRow : CommandRow .hold 0x05#8 actHold := fun _ => rfl
theorem resumeRow : CommandRow .resume 0x06#8 actResume := fun _ => rfl
theorem alterRow : CommandRow .alter 0x07#8 actAlter := fun _ => rfl
theorem readRow : CommandRow .read 0x08#8 actRead := fun _ => rfl
theorem deleteRow : CommandRow .delete 0x09#8 actDelete := fun _ => rfl
theorem listRow : CommandRow .list 0x0A#8 actList := fun _ => rfl
theorem ackRow : CommandRow .ack 0x0B#8 actAck := fun _ => rfl
theorem reconnectRow : CommandRow .reconnect 0x0C#8 actReconnect := fun _ => rfl
theorem linkcfgRow : CommandRow .linkcfg 0x0D#8 actLinkcfg := fun _ => rfl
theorem timeRow : CommandRow .time 0x11#8 actTime := fun _ => rfl

/-- An act that leaves the receive buffer and the replies to the intake. -/
def KeepsBuffers (act : Part → List Byte → Verdict) : Prop :=
  ∀ (p : Part) (payload : List Byte), ((act p payload).part p).port.replies = p.port.replies ∧
    ((act p payload).part p).port.rxBuffer = p.port.rxBuffer

theorem KeepsBuffers.of_port {act : Part → List Byte → Verdict}
    (h : ∀ (p : Part) (payload : List Byte), ((act p payload).part p).port = p.port) : KeepsBuffers act :=
  fun p payload => by rw [h]; exact ⟨rfl, rfl⟩

theorem keepsBuffers_linkstat : KeepsBuffers actLinkstat := by
  intro p payload
  unfold actLinkstat
  split
  · split <;> exact ⟨rfl, rfl⟩
  · exact ⟨rfl, rfl⟩

theorem keepsBuffers_reset : KeepsBuffers actReset := by
  intro p payload
  unfold actReset
  split <;> exact ⟨rfl, rfl⟩

theorem mem_of_isCommandKind : ∀ k : Byte, isCommandKind k = true →
    k ∈ [0x01#8, 0x02#8, 0x03#8, 0x04#8, 0x05#8, 0x06#8, 0x07#8, 0x08#8, 0x09#8, 0x0A#8, 0x0B#8, 0x0C#8, 0x0D#8, 0x0E#8,
      0x0F#8, 0x10#8, 0x11#8, 0x12#8, 0x13#8] := by decide +kernel

/-- The row of each command kind, with its act. -/
theorem commandRow_of_kind {k : Byte} (h : isCommandKind k = true) :
    ∃ act, CommandRow (rowOfKind k) k act ∧ KeepsBuffers act := by
  have hk := mem_of_isCommandKind k h
  simp only [List.mem_cons, List.not_mem_nil, or_false] at hk
  rcases hk with rfl | rfl | rfl | rfl | rfl | rfl | rfl | rfl | rfl | rfl | rfl | rfl | rfl | rfl | rfl | rfl | rfl | rfl | rfl
  · exact ⟨_, identRow, .of_port fun _ payload => (Part.DeviceEq.actIdent payload).port⟩
  · exact ⟨_, defineRow, .of_port fun _ payload => (Part.DeviceEq.actDefine payload).port⟩
  · exact ⟨_, startRow, .of_port fun _ payload => (Part.DeviceEq.actStart payload).port⟩
  · exact ⟨_, stopRow, .of_port fun _ payload => (Part.DeviceEq.actStop payload).port⟩
  · exact ⟨_, holdRow, .of_port fun _ payload => (Part.DeviceEq.actHold payload).port⟩
  · exact ⟨_, resumeRow, .of_port fun _ payload => (Part.DeviceEq.actResume payload).port⟩
  · exact ⟨_, alterRow, .of_port fun _ payload => (Part.DeviceEq.actAlter payload).port⟩
  · exact ⟨_, readRow, .of_port fun _ payload => (Part.DeviceEq.actRead payload).port⟩
  · exact ⟨_, deleteRow, .of_port fun _ payload => (Part.DeviceEq.actDelete payload).port⟩
  · exact ⟨_, listRow, .of_port fun _ payload => (Part.DeviceEq.actList payload).port⟩
  · exact ⟨_, ackRow, .of_port fun _ payload => (Part.DeviceEq.actAck payload).port⟩
  · exact ⟨_, reconnectRow, .of_port fun _ payload => (Part.DeviceEq.actReconnect payload).port⟩
  · exact ⟨_, linkcfgRow, .of_port fun _ payload => (Part.DeviceEq.actLinkcfg payload).port⟩
  · exact ⟨_, linecfgRow, .of_port fun _ payload => actLinecfg_port payload⟩
  · exact ⟨_, driveRow, .of_port fun _ payload => (Part.DeviceEq.actDrive payload).port⟩
  · exact ⟨_, senseRow, .of_port fun _ payload => (Part.DeviceEq.actSense payload).port⟩
  · exact ⟨_, timeRow, .of_port fun _ payload => (Part.DeviceEq.actTime payload).port⟩
  · exact ⟨_, linkstatRow, keepsBuffers_linkstat⟩
  · exact ⟨_, resetRow, keepsBuffers_reset⟩

/-- The rows of the commands are those of the nineteen kinds, and UNKNOWN_KIND (R165). -/
theorem kind_of_commandRow {i : Instr} (h : i ∈ commandRows) :
    i = .unknownKind ∨ ∃ k, isCommandKind k = true ∧ rowOfKind k = i := by
  simp only [commandRows, List.mem_cons, List.not_mem_nil, or_false] at h
  rcases h with rfl | rfl | rfl | rfl | rfl | rfl | rfl | rfl | rfl | rfl | rfl | rfl | rfl | rfl | rfl | rfl | rfl | rfl | rfl | rfl
  · exact .inr ⟨0x01#8, rfl, rfl⟩
  · exact .inr ⟨0x02#8, rfl, rfl⟩
  · exact .inr ⟨0x03#8, rfl, rfl⟩
  · exact .inr ⟨0x04#8, rfl, rfl⟩
  · exact .inr ⟨0x05#8, rfl, rfl⟩
  · exact .inr ⟨0x06#8, rfl, rfl⟩
  · exact .inr ⟨0x07#8, rfl, rfl⟩
  · exact .inr ⟨0x08#8, rfl, rfl⟩
  · exact .inr ⟨0x09#8, rfl, rfl⟩
  · exact .inr ⟨0x0A#8, rfl, rfl⟩
  · exact .inr ⟨0x0B#8, rfl, rfl⟩
  · exact .inr ⟨0x0C#8, rfl, rfl⟩
  · exact .inr ⟨0x0D#8, rfl, rfl⟩
  · exact .inr ⟨0x0E#8, rfl, rfl⟩
  · exact .inr ⟨0x0F#8, rfl, rfl⟩
  · exact .inr ⟨0x10#8, rfl, rfl⟩
  · exact .inr ⟨0x11#8, rfl, rfl⟩
  · exact .inr ⟨0x12#8, rfl, rfl⟩
  · exact .inr ⟨0x13#8, rfl, rfl⟩
  · exact .inl rfl

theorem rowOfKind_unknown : ∀ k : Byte, isCommandKind k = false → rowOfKind k = .unknownKind := by decide +kernel

/-! ### What an intake does (R159, R166) -/

section
variable {s : State} {f : Frame} {i : Instr}

/-- The intake of another command changes nothing. -/
theorem CommandRow.other {kind : Byte} {act : Part → List Byte → Verdict} (hrow : CommandRow i kind act)
    (h : ∀ f, s.Takes f → f.kind ≠ kind) : exec i s = .next s := by
  rw [hrow s, Part.command_of_other h]
  rfl

theorem exec_unknownKind_other (h : ∀ f, s.Takes f → isCommandKind f.kind = true) : exec .unknownKind s = .next s := by
  have hsame : s.toPart.intake (fun k => !isCommandKind k) (fun _ => 0x80#8) (fun _ _ => .deny .unknownKind 0) = s.toPart := by
    unfold Part.intake
    split
    · rfl
    · next f hf => simp [h f hf]
  exact congrArg (fun p => Host.Outcome.next (s.withPart p)) hsame

/-- A row of a command acts on the frames of its kinds only. -/
theorem exec_commandRow_other (hi : i ∈ commandRows) (h : ∀ f, s.Takes f → i ≠ rowOfKind f.kind) : exec i s = .next s := by
  obtain rfl | ⟨k, hk, rfl⟩ := kind_of_commandRow hi
  · refine exec_unknownKind_other fun f hf => ?_
    by_contra hunknown
    exact h f hf (rowOfKind_unknown f.kind (by simpa using hunknown)).symm
  · obtain ⟨act, hrow, -⟩ := commandRow_of_kind hk
    exact hrow.other fun f hf hkind => h f hf (by rw [hkind])

theorem exec_unknownKind_taken (htakes : s.Takes f) (h : isCommandKind f.kind = false) :
    exec .unknownKind s = .next (s.withPart
      ((s.dropFrame.appendReply { kind := 0x80#8, tag := f.tag, payload := [0x01#8, 0x00#8] }).arbitrate)) := by
  have hintake : s.toPart.intake (fun k => !isCommandKind k) (fun _ => 0x80#8) (fun _ _ => .deny .unknownKind 0) =
      (s.dropFrame.appendReply { kind := 0x80#8, tag := f.tag, payload := [0x01#8, 0x00#8] }).arbitrate := by
    simp [Part.intake, show s.frameToTake = some f from htakes, h, Verdict.part, Verdict.payload, replyHead, Status.code]
  exact congrArg (fun p => Host.Outcome.next (s.withPart p)) hintake

/-- The intake of a command appends its one reply: that of an act that has been taken, or two bytes with nothing changed. -/
theorem CommandRow.replies {kind : Byte} {act : Part → List Byte → Verdict} (hrow : CommandRow i kind act)
    (hkeeps : KeepsBuffers act) (htakes : s.Takes f) (hkind : f.kind = kind) :
    ∃ (q : Part) (payload : List Byte), exec i s = .next (s.withPart (q.answered f payload)) ∧
      q.port.replies = s.port.replies ∧ q.port.rxBuffer = s.port.rxBuffer.tail ∧
      (payload.head? = some 0x00#8 ∨ (q = s.dropFrame ∧ payload.length = 2)) := by
  obtain ⟨hreplies, hbuffer⟩ := hkeeps s.dropFrame f.payload
  cases hverdict : act s.dropFrame f.payload with
  | deny status detail =>
    exact ⟨s.dropFrame, _, hrow.denies htakes hkind rfl hverdict, rfl, rfl, .inr ⟨rfl, rfl⟩⟩
  | taken q body =>
    rw [hverdict] at hreplies hbuffer
    exact ⟨q, _, hrow.answers htakes hkind rfl hverdict, hreplies, hbuffer, .inl rfl⟩

end

theorem State.takes_iff (s : State) (f : Frame) : s.Takes f ↔
    (∃ rest, s.port.rxBuffer = f :: rest) ∧ s.port.replies.length < 4 ∧ s.port.resetPending = false := by
  constructor
  · intro h
    obtain ⟨hfew, hopen, hbuffer⟩ := Part.frameToTake_cases h
    exact ⟨⟨_, hbuffer⟩, hfew, hopen⟩
  · rintro ⟨⟨rest, hbuffer⟩, hfew, hopen⟩
    simp [Part.Takes, Part.frameToTake, hfew, hopen, hbuffer]

/-- Settles O15, by the row of the frame's kind. -/
theorem everyTakenFrameGetsOneReply : Obligations.EveryTakenFrameGetsOneReply := by
  unfold Obligations.EveryTakenFrameGetsOneReply
  refine ⟨State.takes_iff, fun s hnone i hi => exec_commandRow_other hi fun f hf => absurd hf (hnone f),
    fun s f htakes => ⟨fun i hi hne => exec_commandRow_other hi fun f' hf' => ?sameFrame,
      exec_unknownKind_taken htakes, fun hkind => ?reply⟩⟩
  case sameFrame =>
    obtain rfl : f = f' := Option.some.inj (htakes.symm.trans hf')
    exact hne
  case reply =>
    obtain ⟨act, hrow, hkeeps⟩ := commandRow_of_kind hkind
    exact hrow.replies hkeeps htakes rfl

/-! ### IDENT, LIST and TIME (R176) -/

theorem actIdent_wrongLength {p : Part} {payload : List Byte} (h : payload ≠ []) :
    actIdent p payload = .deny .badLength 0 := if_neg (mt List.length_eq_zero_iff.mp h)

theorem actList_wrongLength {p : Part} {payload : List Byte} (h : payload ≠ []) :
    actList p payload = .deny .badLength 0 := if_neg (mt List.length_eq_zero_iff.mp h)

theorem actTime_wrongLength {p : Part} {payload : List Byte} (h : payload ≠ []) :
    actTime p payload = .deny .badLength 0 := if_neg (mt List.length_eq_zero_iff.mp h)

theorem length_flatMap_of_const {α : Type} (l : List α) (f : α → List Byte) (n : Nat) (h : ∀ a, (f a).length = n) :
    (l.flatMap f).length = n * l.length := by
  simp [List.length_flatMap, h, Nat.mul_comm]

/-- Settles O16, each command by its verdict. -/
theorem identListAndTimeAnswer : Obligations.IdentListAndTimeAnswer := by
  unfold Obligations.IdentListAndTimeAnswer
  intro s f htakes
  refine ⟨fun hkind hpayload => identRow.answers htakes hkind hpayload rfl,
    fun hkind hpayload => ⟨_, rfl, ?listLength, listRow.answers htakes hkind hpayload rfl⟩,
    fun hkind hpayload => timeRow.answers htakes hkind hpayload rfl,
    fun hne => ⟨fun hkind => identRow.denies htakes hkind rfl (actIdent_wrongLength hne),
      fun hkind => listRow.denies htakes hkind rfl (actList_wrongLength hne),
      fun hkind => timeRow.denies htakes hkind rfl (actTime_wrongLength hne)⟩⟩
  case listLength =>
    rw [List.length_append, length_flatMap_of_const _ _ 3 (fun b => by simp)]
    simp [timeBytes]

end Sys2Proof.Machine
end

section
/-! SUPPORT. R140, R141, R146 and R147: what ACK, RECONNECT and LINKCFG come to. -/

namespace Sys2Proof.Machine

open Sys2Proof

/-! ### ACK (R140, R141) -/

/-- The entries through the first one, not NEW, that has the sequence (R140). -/
theorem ackSpan_split {n : BitVec 16} {pre post : List ReportEntry} {e : ReportEntry} (hpre : ∀ x ∈ pre, x.seq ≠ n)
    (hseq : e.seq = n) (hsent : e.delivery ≠ .new) : ackSpan n (pre ++ e :: post) = some (pre.length + 1) := by
  induction pre with
  | nil => simp [ackSpan, hseq, hsent]
  | cons x xs ih =>
    have hx : x.seq ≠ n := hpre x List.mem_cons_self
    rw [List.cons_append, ackSpan, if_neg (fun h => hx h.1), ih fun y hy => hpre y (List.mem_cons_of_mem _ hy)]
    rfl

theorem ackSpan_none {n : BitVec 16} {q : List ReportEntry} (h : ∀ x ∈ q, x.seq = n → x.delivery = .new) :
    ackSpan n q = none := by
  induction q with
  | nil => rfl
  | cons x xs ih =>
    have hx := h x List.mem_cons_self
    rw [ackSpan, if_neg (fun hc => hc.2 (hx hc.1)), ih fun y hy => h y (List.mem_cons_of_mem _ hy)]
    rfl

/-- The sequence number that the payload of an ACK spells. -/
theorem ack_sequence (n : BitVec 16) : BitVec.ofNat 16 (field (beBytes 2 n.toNat) 0 2) = n := by
  rw [field_beBytes_last (by simpa using n.isLt), BitVec.ofNat_toNat, BitVec.setWidth_eq]

section
variable {p : Part} {n : BitVec 16}

theorem actAck_wrongLength {payload : List Byte} (h : payload.length ≠ 2) : actAck p payload = .deny .badLength 0 := if_neg h

/-- An ACK that names a transmitted entry removes everything through it (R140). -/
theorem actAck_span {k : Nat} (h : ackSpan n p.reports.queue = some k) : actAck p (beBytes 2 n.toNat) =
    .taken { p with reports := p.reports.remove p.time k } (ackBody k (p.reports.remove p.time k).oldestSeq) := by
  simp only [actAck, if_pos (beBytes_length 2 _), ack_sequence, h]

/-- An ACK that names none is stale or bad (R140). -/
theorem actAck_noSpan (h : ackSpan n p.reports.queue = none) : actAck p (beBytes 2 n.toNat) =
    if p.reports.stale n then .taken p (ackBody 0 p.reports.oldestSeq) else .deny .badAck 0 := by
  simp only [actAck, if_pos (beBytes_length 2 _), ack_sequence, h]

theorem Reporter.stale_iff (r : Reporter) (n : BitVec 16) :
    r.stale n = true ↔ 1 ≤ (r.oldestSeq - n).toNat ∧ (r.oldestSeq - n).toNat ≤ 64 := by
  simp [Reporter.stale]

/-- The oldest sequence as the head of the list of sequences. -/
theorem Reporter.oldestSeq_eq (r : Reporter) : r.oldestSeq = (r.queue.map (fun x => x.seq)).headD r.nextSeq := by
  unfold Reporter.oldestSeq
  cases r.queue <;> rfl

theorem Reporter.remove_split {r : Reporter} {pre post : List ReportEntry} {e : ReportEntry} (h : r.queue = pre ++ e :: post)
    (now : Time) : r.remove now (pre.length + 1) = { r with
      queue := post, retry := 0
      timer := if r.link = .up ∧ sentCount post ≠ 0 then some (plus now (r.interval * 1000)) else none } := by
  have hdrop : r.queue.drop (pre.length + 1) = post := by rw [h]; simp
  rw [Reporter.remove, hdrop, Reporter.timerAfterAck]
  cases r.link with
  | up => by_cases hsent : sentCount post = 0 <;> simp [hsent, Reporter.intervalMicros]
  | lost => rfl

end

/-- Settles O19, by what the sequence names: a transmitted entry, none that stands near, or none at all. -/
theorem ackRemovesOrChangesNothing : Obligations.AckRemovesOrChangesNothing := by
  unfold Obligations.AckRemovesOrChangesNothing
  refine ⟨fun s f htakes hkind hlength => ackRow.denies htakes hkind rfl (actAck_wrongLength hlength),
    fun s f n htakes hkind hpayload => ⟨fun e pre post hqueue hseq hsent hpre => ?removes, fun hnone hone hfew => ?stale,
      fun hnone hfar => ?bad⟩⟩
  case removes =>
    have hspan : ackSpan n s.reports.queue = some (pre.length + 1) := by rw [hqueue]; exact ackSpan_split hpre hseq hsent
    have hverdict : actAck s.dropFrame (beBytes 2 n.toNat) =
        .taken { s.dropFrame with reports := s.reports.remove s.time (pre.length + 1) }
          (ackBody (pre.length + 1) (s.reports.remove s.time (pre.length + 1)).oldestSeq) :=
      actAck_span (p := s.dropFrame) hspan
    rw [ackRow.answers htakes hkind hpayload hverdict, Reporter.oldestSeq_eq, Reporter.remove_split hqueue, ackBody,
      List.append_assoc]
  case stale =>
    have hstale : s.dropFrame.reports.stale n = true := (s.reports.stale_iff n).2 ⟨hone, hfew⟩
    have hverdict : actAck s.dropFrame (beBytes 2 n.toNat) = .taken s.dropFrame (ackBody 0 s.reports.oldestSeq) :=
      (actAck_noSpan (p := s.dropFrame) (ackSpan_none hnone)).trans (if_pos hstale)
    exact ackRow.answers htakes hkind hpayload hverdict
  case bad =>
    have hfresh : ¬ s.dropFrame.reports.stale n = true := fun hstale => by
      obtain ⟨hone, hfew⟩ := (s.reports.stale_iff n).1 hstale
      rcases hfar with heq | hfar
      · rw [heq] at hone; simp at hone
      · omega
    have hverdict : actAck s.dropFrame (beBytes 2 n.toNat) = .deny .badAck 0 :=
      (actAck_noSpan (p := s.dropFrame) (ackSpan_none hnone)).trans (if_neg hfresh)
    exact ackRow.denies htakes hkind hpayload hverdict

/-! ### RECONNECT and LINKCFG (R146, R147) -/

theorem actReconnect_wrongLength {p : Part} {payload : List Byte} (h : payload ≠ []) :
    actReconnect p payload = .deny .badLength 0 := if_neg (mt List.length_eq_zero_iff.mp h)

theorem actLinkcfg_wrongLength {p : Part} {payload : List Byte} (h : payload.length ≠ 4) :
    actLinkcfg p payload = .deny .badLength 0 := if_neg h

/-- Every entry keeps its sequence, so the oldest one stays. -/
theorem Reporter.reconnect_oldestSeq (r : Reporter) : r.reconnect.oldestSeq = r.oldestSeq := by
  rw [Reporter.oldestSeq_eq, Reporter.oldestSeq_eq]
  have hmap : r.reconnect.queue.map (fun x => x.seq) = r.queue.map (fun x => x.seq) := by
    simp only [Reporter.reconnect, resendAll, List.map_map]
    exact List.map_congr_left fun e _ => by simp only [Function.comp_apply]; split <;> rfl
  rw [hmap]
  rfl

theorem firstFailing_cons (index : Nat) (fails : Bool) (rest : List (Nat × Bool)) :
    firstFailing ((index, fails) :: rest) = if fails then some index else firstFailing rest := rfl

theorem LossPolicy.ofCode_none {n : Nat} (h : 2 < n) : LossPolicy.ofCode n = none := by
  match n, h with
  | n + 3, _ => rfl

/-- The policy that a byte up to 0x02 codes, and the code again (R147). -/
theorem LossPolicy.ofCode_byte {policy : Byte} (h : policy.toNat ≤ 2) :
    LossPolicy.ofCode policy.toNat =
        some (if policy = 0x00#8 then .carryOn else if policy = 0x01#8 then .holdAll else .stopAll) ∧
      BitVec.ofNat 8 (LossPolicy.code (if policy = 0x00#8 then .carryOn else if policy = 0x01#8 then .holdAll else .stopAll)) =
        policy := by
  obtain rfl | rfl | rfl : policy = 0x00#8 ∨ policy = 0x01#8 ∨ policy = 0x02#8 := by bv_omega
  · exact ⟨rfl, rfl⟩
  · exact ⟨rfl, rfl⟩
  · exact ⟨rfl, rfl⟩

section
variable {p : Part} {interval : Nat} {limit policy : Byte}

/-- LINKCFG by its three checks in order (R147). -/
theorem actLinkcfg_eq (h : interval < 65536) : actLinkcfg p (beBytes 2 interval ++ [limit, policy]) =
    if interval < 10 ∨ 5000 < interval then .deny .badParam 1
    else if limit.toNat < 1 ∨ 15 < limit.toNat then .deny .badParam 2
    else match LossPolicy.ofCode policy.toNat with
      | none => .deny .badParam 3
      | some x => .taken { p with reports := { p.reports with
          interval := interval, retryLimit := limit.toNat, policy := x } }
        (beBytes 2 interval ++ beBytes 1 limit.toNat ++ beBytes 1 x.code) := by
  have hinterval : field (beBytes 2 interval ++ [limit, policy]) 0 2 = interval := field_beBytes (by simpa using h) _
  have hlimit : field (beBytes 2 interval ++ [limit, policy]) 2 1 = limit.toNat := by
    rw [field_skip _ _ (le_refl 2)]
    exact field_head _ _
  have hpolicy : field (beBytes 2 interval ++ [limit, policy]) 3 1 = policy.toNat := by
    rw [field_skip _ _ (by omega : 2 ≤ 3)]
    exact field_second _ _ _
  rw [actLinkcfg, if_pos (by simp)]
  simp only [linkcfgChecks, hinterval, hlimit, hpolicy, firstFailing_cons, Bool.or_eq_true, decide_eq_true_eq]
  by_cases h1 : interval < 10 ∨ 5000 < interval
  · simp only [h1, if_true]
  · by_cases h2 : limit.toNat < 1 ∨ 15 < limit.toNat
    · simp only [h1, h2, if_true, if_false]
    · cases LossPolicy.ofCode policy.toNat with
      | none => simp only [h1, h2, if_false, Option.isNone_none, if_true]
      | some x => simp only [h1, h2, if_false, Option.isNone_some, Bool.false_eq_true, firstFailing]

end

/-- Settles O20: RECONNECT by its payload, LINKCFG by the first field that fails. -/
theorem reconnectAndLinkcfgAct : Obligations.ReconnectAndLinkcfgAct := by
  unfold Obligations.ReconnectAndLinkcfgAct
  intro s f htakes
  refine ⟨fun hkind hpayload => ?reconnect, fun hkind interval limit policy hsize hpayload =>
      ⟨fun h1 => ?badInterval, fun h1 h2 h3 => ?badLimit, fun h1 h2 h3 h4 h5 => ?badPolicy, fun h1 h2 h3 h4 h5 => ?taken⟩,
    fun hkind hne => reconnectRow.denies htakes hkind rfl (actReconnect_wrongLength hne),
    fun hkind hlength => linkcfgRow.denies htakes hkind rfl (actLinkcfg_wrongLength hlength)⟩
  case reconnect =>
    have hverdict : actReconnect s.dropFrame [] = .taken { s.dropFrame with reports := s.reports.reconnect }
        (beBytes 2 s.reports.reconnect.oldestSeq.toNat ++ beBytes 1 s.reports.queue.length ++
          beBytes 1 s.reports.reservations) := rfl
    have hanswers := reconnectRow.answers htakes hkind hpayload hverdict
    rw [Reporter.reconnect_oldestSeq] at hanswers
    rw [hanswers, List.append_assoc, List.append_assoc, List.append_assoc]
    rfl
  case badInterval =>
    refine linkcfgRow.denies (status := .badParam) (detail := 1) htakes hkind hpayload ?_
    rw [actLinkcfg_eq hsize, if_pos h1]
  case badLimit =>
    refine linkcfgRow.denies (status := .badParam) (detail := 2) htakes hkind hpayload ?_
    rw [actLinkcfg_eq hsize, if_neg (by omega), if_pos (by omega)]
  case badPolicy =>
    refine linkcfgRow.denies (status := .badParam) (detail := 3) htakes hkind hpayload ?_
    rw [actLinkcfg_eq hsize, if_neg (by omega), if_neg (by omega), LossPolicy.ofCode_none h5]
  case taken =>
    obtain ⟨hpolicy, hcode⟩ := LossPolicy.ofCode_byte h5
    have hverdict := actLinkcfg_eq (p := s.dropFrame) (limit := limit) (policy := policy) hsize
    rw [if_neg (by omega), if_neg (by omega), hpolicy] at hverdict
    rw [linkcfgRow.answers htakes hkind hpayload hverdict, beBytes_one_toNat, beBytes_one, hcode, List.append_assoc]
    rfl

end Sys2Proof.Machine
end

section
/-! SUPPORT. R5, R20 and R171: the checks that open a job command, and DELETE. -/

namespace Sys2Proof.Machine

open Sys2Proof

/-! ### Commands that carry a job number alone (R171) -/

/-- An act that reads a job number of one byte and goes on with what it does to the job. -/
def ReadsJob (act : Part → List Byte → Verdict) (body : Part → JobId → Verdict) : Prop :=
  ∀ (p : Part) (payload : List Byte), act p payload = onJob payload (decide (payload.length = 1)) (body p)

section
variable {act : Part → List Byte → Verdict} {body : Part → JobId → Verdict} {p : Part}

theorem ReadsJob.badLength (h : ReadsJob act body) {payload : List Byte} (hlength : payload.length ≠ 1) :
    act p payload = .deny .badLength 0 := by
  rw [h, decide_eq_false hlength]
  rfl

theorem ReadsJob.badJob (h : ReadsJob act body) {n : Byte} (hn : n.toNat = 0 ∨ 32 < n.toNat) :
    act p [n] = .deny .badJob 0 := by rw [h]; exact onJob_badJob hn _ _

theorem ReadsJob.job (h : ReadsJob act body) {n : Byte} {j : JobId} (hn : n.toNat = j.val + 1) : act p [n] = body p j := by
  rw [h]; exact onJob_job hn _ _

end

/-- Each command that carries a job number alone has a row, reads the number and refuses the states of section 1.2. -/
theorem jobRow_of_oneByteRow {r : Instr × Byte} (h : r ∈ oneByteRows) :
    ∃ act body, CommandRow r.1 r.2 act ∧ ReadsJob act body ∧
      ∀ (p : Part) (j : JobId), wrongState r.1 p.jobs[j].state → body p j = .deny .wrongState 0 := by
  simp only [oneByteRows, List.mem_cons, List.not_mem_nil, or_false] at h
  rcases h with rfl | rfl | rfl | rfl | rfl
  case inl =>
    refine ⟨_, _, startRow, fun p payload => rfl, fun p j hw => ?_⟩
    cases hs : p.jobs[j].state <;> simp_all [wrongState]
  case inr.inl =>
    refine ⟨_, _, holdRow, fun p payload => rfl, fun p j hw => if_neg ?_⟩
    simpa [wrongState] using hw
  case inr.inr.inl =>
    refine ⟨_, _, resumeRow, fun p payload => rfl, fun p j hw => if_neg ?_⟩
    simpa [wrongState] using hw
  case inr.inr.inr.inl =>
    refine ⟨_, _, readRow, fun p payload => rfl, fun p j hw => ?_⟩
    have hfree : p.jobs[j].state = .free := by simpa [wrongState] using hw
    simp only [hfree]
  case inr.inr.inr.inr =>
    refine ⟨_, _, deleteRow, fun p payload => rfl, fun p j hw => ?_⟩
    cases hs : p.jobs[j].state <;> simp_all [wrongState]

/-! ### STOP and ALTER (R171) -/

section
variable {p : Part} {n finish code : Byte} {values : List Byte} {j : JobId}

theorem actStop_badLength {payload : List Byte} (h : payload.length ≠ 2) : actStop p payload = .deny .badLength 0 := by
  rw [actStop, decide_eq_false h]
  rfl

theorem actStop_badJob (h : n.toNat = 0 ∨ 32 < n.toNat) : actStop p [n, finish] = .deny .badJob 0 := onJob_badJob h _ _

/-- STOP by its checks in order: the state, a finish in STOPPING, the finish byte (R12–R14, R171). -/
theorem actStop_job (h : n.toNat = j.val + 1) : actStop p [n, finish] =
    if !p.jobs[j].state.live then .deny .wrongState 0
    else if p.jobs[j].state = .stopping ∧ finish.toNat = 1 then .deny .wrongState 0
    else if 1 < finish.toNat then .deny .badParam 2
    else p.stopLive j (decide (finish.toNat = 1)) := by
  have hread : actStop p [n, finish] = _ := onJob_job h [finish] _
  rw [hread, field_second]

/-- The length that the code of an ALTER kind asks for, field 2 and the job number included (R169). -/
theorem alterLengthOf_row : ∀ r ∈ alterLengths, alterLengthOf r.1.toNat = some (r.2 + 2) := by decide

/-- A code that names no ALTER kind asks for none (R169). -/
theorem alterLengthOf_none : ∀ code : Byte, (∀ r ∈ alterLengths, code ≠ r.1) → alterLengthOf code.toNat = none := by
  decide +kernel

theorem alterLengthOk_short {payload : List Byte} (h : payload.length < 2) : alterLengthOk payload = false := by
  match payload, h with
  | [], _ => rfl
  | [_], _ => rfl

theorem alterLengthOk_of_row {r : Byte × Nat} (hr : r ∈ alterLengths) :
    alterLengthOk ([n, r.1] ++ values) = decide (values.length = r.2) := by
  have hfield : field ([n, r.1] ++ values) 1 1 = r.1.toNat := field_second _ _ _
  rw [alterLengthOk, hfield, alterLengthOf_row r hr]
  simp

theorem alterLengthOk_of_none (h : ∀ r ∈ alterLengths, code ≠ r.1) : alterLengthOk ([n, code] ++ values) = true := by
  have hfield : field ([n, code] ++ values) 1 1 = code.toNat := field_second _ _ _
  rw [alterLengthOk, hfield, alterLengthOf_none code h]
  simp

/-- The length passes when it is the one that the code asks for, if the code asks for one (R169). -/
theorem alterLengthOk_of_lengths (h : ∀ r ∈ alterLengths, code = r.1 → values.length = r.2) :
    alterLengthOk ([n, code] ++ values) = true := by
  by_cases hcode : ∃ r ∈ alterLengths, code = r.1
  · obtain ⟨r, hr, rfl⟩ := hcode
    rw [alterLengthOk_of_row hr]
    exact decide_eq_true (h r hr rfl)
  · exact alterLengthOk_of_none fun r hr hc => hcode ⟨r, hr, hc⟩

theorem actAlter_badLength {payload : List Byte} (h : alterLengthOk payload = false) :
    actAlter p payload = .deny .badLength 0 := by
  rw [actAlter, h]
  rfl

theorem actAlter_badJob (hlength : alterLengthOk ([n, code] ++ values) = true) (h : n.toNat = 0 ∨ 32 < n.toNat) :
    actAlter p ([n, code] ++ values) = .deny .badJob 0 := by
  rw [actAlter, hlength]
  exact onJob_badJob h _ _

theorem actAlter_wrongState (hlength : alterLengthOk ([n, code] ++ values) = true) (h : n.toNat = j.val + 1)
    (hstate : p.jobs[j].state.alterable = false) : actAlter p ([n, code] ++ values) = .deny .wrongState 0 := by
  rw [actAlter, hlength]
  refine (onJob_job h (code :: values) _).trans ?_
  rw [hstate]

section
variable {w : Work} (hlength : alterLengthOk ([n, code] ++ values) = true) (h : n.toNat = j.val + 1)
  (hstate : p.jobs[j].state.alterable = true) (hw : p.workOf j = some w)
include hlength h hstate hw

/-- ALTER of a job that takes it, by its checks: first the kind (R17, R171). -/
theorem actAlter_wrongKind (hkind : w.kind = .delay ∨ JobKind.ofCode code.toNat ≠ some w.kind) :
    actAlter p ([n, code] ++ values) = .deny .wrongKind 0 := by
  have hfield : field ([n, code] ++ values) 1 1 = code.toNat := field_second _ _ _
  rw [actAlter, hlength]
  refine (onJob_job h (code :: values) _).trans ?_
  rw [hstate, hw]
  exact if_pos (hfield.symm ▸ hkind)

/-- Then the values, the first that fails being named. -/
theorem actAlter_badParam (hkind : w.kind ≠ .delay) (hcode : JobKind.ofCode code.toNat = some w.kind) {index : Nat}
    (hfails : firstFailing (alterValueChecks ([n, code] ++ values) w) = some index) :
    actAlter p ([n, code] ++ values) = .deny .badParam index := by
  have hfield : field ([n, code] ++ values) 1 1 = code.toNat := field_second _ _ _
  rw [actAlter, hlength]
  refine (onJob_job h (code :: values) _).trans ?_
  rw [hstate, hw]
  refine (if_neg (hfield.symm ▸ fun hc => hc.elim hkind (· hcode))).trans ?_
  rw [hfails]

theorem actAlter_checked (hkind : w.kind ≠ .delay) (hcode : JobKind.ofCode code.toNat = some w.kind)
    (hpasses : firstFailing (alterValueChecks ([n, code] ++ values) w) = none) :
    actAlter p ([n, code] ++ values) = p.alterChecked j w ([n, code] ++ values) := by
  have hfield : field ([n, code] ++ values) 1 1 = code.toNat := field_second _ _ _
  rw [actAlter, hlength]
  refine (onJob_job h (code :: values) _).trans ?_
  rw [hstate, hw]
  refine (if_neg (hfield.symm ▸ fun hc => hc.elim hkind (· hcode))).trans ?_
  rw [hpasses]

end

end

theorem JobState.alterable_eq_false {st : JobState} (h : st = .free ∨ st = .defined ∨ st = .stopping ∨ st = .ended) :
    st.alterable = false := by
  rcases h with rfl | rfl | rfl | rfl <;> rfl

/-- Settles O31, by the row of the command: each reads its length, its job number and the state of the job, in that order. -/
theorem jobCommandsRefusedByState : Obligations.JobCommandsRefusedByState := by
  unfold Obligations.JobCommandsRefusedByState
  refine fun s f htakes => ⟨fun r hr hkind => ?oneByte, fun hkind => ?stop, fun hkind => ?alter⟩
  case oneByte =>
    obtain ⟨act, body, hrow, hreads, hrefuses⟩ := jobRow_of_oneByteRow hr
    exact ⟨fun hlength => hrow.denies htakes hkind rfl (hreads.badLength hlength), fun n hpayload =>
      ⟨fun hn => hrow.denies htakes hkind hpayload (hreads.badJob hn), fun j hn hstate =>
        hrow.denies htakes hkind hpayload ((hreads.job hn).trans (hrefuses s.dropFrame j hstate))⟩⟩
  case stop =>
    refine ⟨fun hlength => stopRow.denies htakes hkind rfl (actStop_badLength hlength), fun n finish hpayload =>
      ⟨fun hn => stopRow.denies htakes hkind hpayload (actStop_badJob hn), fun j hn hlive =>
        stopRow.denies (status := .wrongState) (detail := 0) htakes hkind hpayload ?_⟩⟩
    rw [actStop_job hn, if_pos]
    simpa using hlive
  case alter =>
    refine ⟨fun hlength => alterRow.denies htakes hkind rfl (actAlter_badLength (alterLengthOk_short hlength)),
      fun n code values hpayload => ⟨fun r hr hcode hne => ?_, fun hlengths => ⟨fun hn => ?_, fun j hn hstate => ?_⟩⟩⟩
    · subst hcode
      exact alterRow.denies htakes hkind hpayload (actAlter_badLength ((alterLengthOk_of_row hr).trans (decide_eq_false hne)))
    · exact alterRow.denies htakes hkind hpayload (actAlter_badJob (alterLengthOk_of_lengths hlengths) hn)
    · exact alterRow.denies htakes hkind hpayload
        (actAlter_wrongState (alterLengthOk_of_lengths hlengths) hn (JobState.alterable_eq_false hstate))

/-! ### DELETE (R20) -/

theorem actDelete_job {p : Part} {n : Byte} {j : JobId} (hn : n.toNat = j.val + 1)
    (hstate : p.jobs[j].state = .defined ∨ p.jobs[j].state = .ended) :
    actDelete p [n] = (p.setJob j Job.free).takenSummary j false := by
  have hread : actDelete p [n] = _ := onJob_job hn [] _
  rw [hread]
  rcases hstate with h | h <;> rw [h]

/-- The summary of a FREE job names it and is zero otherwise (R172). -/
theorem summary_free (j : JobId) :
    Job.free.summary j false = BitVec.ofNat 8 (j.val + 1) :: List.replicate 22 0x00#8 := by
  rw [Job.summary, beBytes_one]
  rfl

/-- The summary after a record is written is that of the record. -/
theorem Part.setJob_summary (p : Part) (j : JobId) (b : Job) (replaced : Bool) :
    (p.setJob j b).summary j replaced = b.summary j replaced :=
  congrArg (fun x => Job.summary x j replaced) (p.setJob_jobs_self j b)

/-- Settles O30, by the record that DELETE writes. -/
theorem deleteFreesJob : Obligations.DeleteFreesJob := by
  unfold Obligations.DeleteFreesJob
  intro s f j htakes hkind hpayload hstate
  have hverdict := actDelete_job (p := s.dropFrame) (jobNumber_byte j) hstate
  refine ⟨s.dropFrame.setJob j Job.free, ?_, ?_, fun k hk => ?_, rfl⟩
  · rw [deleteRow.answers htakes hkind hpayload hverdict, Part.setJob_summary, summary_free]
    rfl
  · exact Part.setJob_jobs_self ..
  · exact Part.setJob_jobs_ne _ _ hk

end Sys2Proof.Machine
end

section
/-! SUPPORT. R8–R10 and R23: a START command, by what its claims come to. -/

namespace Sys2Proof.Machine

open Sys2Proof

/-- What an act on the jobs leaves, once the tables that it wrote are put back, is the part it began with. -/
theorem Part.DeviceEq.restore {p q : Part} (h : p.DeviceEq q) :
    { q with deliveries := p.deliveries, outputs := p.outputs, cells := p.cells, jobs := p.jobs, schedule := p.schedule,
             reports := p.reports } = p := by
  simp only [h.time, h.refclk, h.resetHold, h.resetN, h.inputs, h.port, h.choices]

section
variable {p : Part} {j : JobId} {d : Definition}

theorem actStart_job {n : Byte} (hn : n.toNat = j.val + 1) (hstate : p.jobs[j].state = .defined ∨ p.jobs[j].state = .ended)
    (hd : p.jobs[j].defn = some d) : actStart p [n] = p.startDefined j d := by
  refine (onJob_job hn [] _).trans ?_
  rcases hstate with h | h <;> rw [h, hd]

/-! ### The claims (R9) -/

theorem Part.length_freeCells (p : Part) :
    p.freeCells.length = (List.finRange 24).countP (fun c => p.cells[c].owner.isNone) :=
  List.countP_eq_length_filter.symm

theorem Part.hasRoom_iff : p.hasRoom = true ↔ p.reports.queue.length + p.reports.reservations < 64 := decide_eq_true_iff

/-- No other job owns the line of the definition. -/
def Part.LineFree (p : Part) (j : JobId) (d : Definition) : Prop :=
  ∀ (u : OutputUse) (k : JobId), d.output = some u → p.outputs[u.line].owner = some k → k = j

theorem Part.lineHolder_of_lineFree (h : p.LineFree j d) : p.lineHolder j d = none := by
  unfold Part.lineHolder
  split
  · rfl
  · rename_i u hu
    split
    · rfl
    · rename_i k hk
      exact if_pos (h u k hu hk)

theorem Part.claim_lineBusy {u : OutputUse} {k : JobId} (hu : d.output = some u) (hk : p.outputs[u.line].owner = some k)
    (hne : k ≠ j) : p.claim j d = .lineBusy k := by
  have hholder : p.lineHolder j d = some k := by simp only [Part.lineHolder, hu, hk, if_neg hne]
  simp only [Part.claim, hholder]

/-- With the line free, the cells come next, then the reservation (R9). -/
theorem Part.claim_of_lineFree (h : p.LineFree j d) : p.claim j d =
    if p.freeCells.length < d.work.cellsNeeded then .noCells
    else if p.hasRoom then .granted (p.freeCells.take d.work.cellsNeeded) else .noRoom := by
  simp only [Part.claim, Part.lineHolder_of_lineFree h]

end

/-- Settles O23, by the claim that fails first. -/
theorem startClaimsFailInOrder : Obligations.StartClaimsFailInOrder := by
  unfold Obligations.StartClaimsFailInOrder
  intro s f j d htakes hkind hpayload hstate hd
  have hverdict : actStart s.dropFrame [BitVec.ofNat 8 (j.val + 1)] = s.dropFrame.startDefined j d :=
    actStart_job (jobNumber_byte j) hstate hd
  refine ⟨fun u k hu hk hne => ?lineBusy, fun hfree => ⟨fun hfew => ?noCells, fun hcells hfull => ?noRoom⟩⟩
  case lineBusy =>
    rw [Part.startDefined, Part.claim_lineBusy (p := s.dropFrame) hu hk hne] at hverdict
    exact startRow.denies htakes hkind hpayload hverdict
  case noCells =>
    rw [Part.startDefined, Part.claim_of_lineFree (p := s.dropFrame) hfree, if_pos (by rw [Part.length_freeCells]; exact hfew)] at hverdict
    exact startRow.denies htakes hkind hpayload hverdict
  case noRoom =>
    rw [Part.startDefined, Part.claim_of_lineFree (p := s.dropFrame) hfree, if_neg (by rw [Part.length_freeCells]; exact Nat.not_lt.2 hcells),
      if_neg (mt (Part.hasRoom_iff (p := s.dropFrame)).1 (Nat.not_lt.2 hfull))] at hverdict
    exact startRow.denies htakes hkind hpayload hverdict

/-- Settles O24, by the grant and the start mode. -/
theorem startGrantsAllClaims : Obligations.StartGrantsAllClaims := by
  unfold Obligations.StartGrantsAllClaims
  intro s f j d htakes hkind hpayload hstate hd hfree hcells hroom
  have hverdict : actStart s.dropFrame [BitVec.ofNat 8 (j.val + 1)] = s.dropFrame.startDefined j d :=
    actStart_job (jobNumber_byte j) hstate hd
  rw [Part.startDefined, Part.claim_of_lineFree (p := s.dropFrame) hfree, if_neg (by rw [Part.length_freeCells]; exact Nat.not_lt.2 hcells),
    if_pos ((Part.hasRoom_iff (p := s.dropFrame)).2 hroom)] at hverdict
  let cs := s.dropFrame.freeCells.take d.work.cellsNeeded
  let q := s.dropFrame.grant j d cs
  refine ⟨q, s.dropFrame.startGranted j d cs, cs, ?mode, startRow.answers htakes hkind hpayload hverdict, rfl, ?job,
    fun k hk => ?others, fun c => Part.grant_cells _ j d cs c, fun u hu => ?line, fun o ho => ?lines, Part.grant_reports ..,
    ?frame⟩
  case mode =>
    rw [Part.startGranted]
    cases hmode : d.startMode <;> rfl
  case job => exact (Part.grant_jobs _ j j d cs).trans (if_pos rfl)
  case others => exact (Part.grant_jobs _ j k d cs).trans (if_neg hk)
  case line =>
    have hline := Part.grant_outputs s.dropFrame j d cs u.line
    rw [hu] at hline
    exact hline.trans (if_pos rfl)
  case lines =>
    have hline := Part.grant_outputs s.dropFrame j d cs o
    cases hu : d.output with
    | none =>
      rw [hu] at hline
      exact hline
    | some u =>
      rw [hu] at hline
      exact hline.trans (if_neg fun h => ho u hu h.symm)
  case frame =>
    have hdevice : s.dropFrame.DeviceEq q := by constructor <;> exact (by simp [q])
    have hdeliveries : q.deliveries = s.dropFrame.deliveries := Part.grant_deliveries ..
    have hschedule : q.schedule = s.dropFrame.schedule := Part.grant_schedule ..
    have hrestored := hdevice.restore
    rw [← hdeliveries, ← hschedule] at hrestored
    exact hrestored

end Sys2Proof.Machine
end

section
/-! SUPPORT. The line and the cell of a job, read after they are driven and set; HOLD and the entry into RUNNING by kind. -/

namespace Sys2Proof.Machine

open Sys2Proof

section
variable {p : Part} {j : JobId} {d : Definition}

/-! ### The line of a job (R40) -/

/-- The job owns the line that its definition names. -/
def Part.Drives (p : Part) (j : JobId) (d : Definition) (o : OutId) : Prop :=
  ∃ u, d.output = some u ∧ u.line = o ∧ p.outputs[o].owner = some j

theorem Part.ownedOutput_of_output {u : OutputUse} (hd : p.jobs[j].defn = some d) (hu : d.output = some u)
    (ho : p.outputs[u.line].owner = some j) : p.ownedOutput j = some u := Part.ownedOutput_eq_some.2 ⟨d, hd, hu, ho⟩

theorem Part.driveIdle_line {u : OutputUse} (hd : p.jobs[j].defn = some d) (hu : d.output = some u)
    (ho : p.outputs[u.line].owner = some j) : (p.driveIdle j).outputs[u.line] = { level := u.idle, owner := some j } := by
  simp only [Part.driveIdle, Part.ownedOutput_of_output hd hu ho]
  rw [← ho]
  exact Part.setOutput_outputs_self ..

theorem Part.driveIdle_others {o : OutId} (hd : p.jobs[j].defn = some d) (ho : ¬ p.Drives j d o) :
    (p.driveIdle j).outputs[o] = p.outputs[o] := by
  unfold Part.driveIdle
  cases howned : p.ownedOutput j with
  | none => rfl
  | some u =>
    obtain ⟨d', hd', hu, hk⟩ := Part.ownedOutput_eq_some.1 howned
    obtain rfl : d = d' := Option.some.inj (hd.symm.trans hd')
    exact Part.setOutput_outputs_ne _ _ fun h => ho ⟨u, hu, h.symm, h ▸ hk⟩

theorem Part.driveActive_line {u : OutputUse} (hd : p.jobs[j].defn = some d) (hu : d.output = some u)
    (ho : p.outputs[u.line].owner = some j) :
    (p.driveActive j).outputs[u.line] = { level := otherLevel u.idle, owner := some j } := by
  simp only [Part.driveActive, Part.ownedOutput_of_output hd hu ho]
  rw [← ho]
  exact Part.setOutput_outputs_self ..

theorem Part.driveActive_others {o : OutId} (hd : p.jobs[j].defn = some d) (ho : ¬ p.Drives j d o) :
    (p.driveActive j).outputs[o] = p.outputs[o] := by
  unfold Part.driveActive
  cases howned : p.ownedOutput j with
  | none => rfl
  | some u =>
    obtain ⟨d', hd', hu, hk⟩ := Part.ownedOutput_eq_some.1 howned
    obtain rfl : d = d' := Option.some.inj (hd.symm.trans hd')
    exact Part.setOutput_outputs_ne _ _ fun h => ho ⟨u, hu, h.symm, h ▸ hk⟩

/-! ### The first cell of a job (R25, R100) -/

theorem Part.setPhase_cell {c : CellId} (ph : Option CellPhase) (hc : p.jobs[j].cells.head? = some c) :
    (p.setPhase j ph).cells[c] = { p.cells[c] with phase := ph } := by
  obtain ⟨rest, hcells⟩ := List.head?_eq_some_iff.1 hc
  simp only [Part.setPhase, hcells]
  exact Part.setCell_cells_self ..

theorem Part.setPhase_others {c : CellId} (ph : Option CellPhase) (hc : p.jobs[j].cells.head? ≠ some c) :
    (p.setPhase j ph).cells[c] = p.cells[c] := by
  unfold Part.setPhase
  cases hcells : p.jobs[j].cells with
  | nil => rfl
  | cons x rest =>
    rw [hcells] at hc
    exact Part.setCell_cells_ne _ _ fun h => hc (congrArg some h.symm)

theorem Part.zeroCount_cell {c : CellId} (hc : p.jobs[j].cells.head? = some c) :
    (p.zeroCount j).cells[c] = { p.cells[c] with count := 0#16 } := by
  obtain ⟨rest, hcells⟩ := List.head?_eq_some_iff.1 hc
  simp only [Part.zeroCount, hcells]
  exact Part.setCell_cells_self ..

theorem Part.zeroCount_others {c : CellId} (hc : p.jobs[j].cells.head? ≠ some c) : (p.zeroCount j).cells[c] = p.cells[c] := by
  unfold Part.zeroCount
  cases hcells : p.jobs[j].cells with
  | nil => rfl
  | cons x rest =>
    rw [hcells] at hc
    exact Part.setCell_cells_ne _ _ fun h => hc (congrArg some h.symm)

/-! ### HOLD (R15) -/

theorem Part.workOf_of_defn (hd : p.jobs[j].defn = some d) : p.workOf j = some d.work := by simp only [Part.workOf, hd]

/-- The record that HOLD leaves. -/
theorem Part.holdJob_jobs (k : JobId) (hd : p.jobs[j].defn = some d) : (p.holdJob j).jobs[k] =
    if k = j then { p.jobs[j] with state := .held, defn := some { d with work := d.work.held (p.timeLeftOf j) } }
    else p.jobs[k] := by
  rw [Part.holdJob_eq (Part.workOf_of_defn hd)]
  by_cases hk : k = j
  · subst hk
    simp only [if_true, Fin.getElem_fin] at hd ⊢
    simp [hd]
  · simp only [hk, if_false, Fin.getElem_fin]
    rw [Part.setState_jobs_ne _ _ hk]
    simp [Part.setWork_jobs_ne _ _ hk]

theorem Part.holdJob_schedule (hd : p.jobs[j].defn = some d) :
    (p.holdJob j).schedule = p.schedule.filter (fun e => decide (e.job ≠ j)) := by
  simp [Part.holdJob_eq (Part.workOf_of_defn hd)]

theorem Part.setWork_defn (w : Work) (hd : p.jobs[j].defn = some d) :
    (p.setWork j w).jobs[j].defn = some { d with work := w } := by
  have hself := p.setWork_jobs_self j w
  simp only [Fin.getElem_fin] at hd ⊢
  rw [hself, hd]
  rfl

/-- The lines are those of the part, the job's own driven idle, and its first cell measures no phase. -/
theorem Part.holdJob_outputs (hd : p.jobs[j].defn = some d) : (p.holdJob j).outputs = (p.driveIdle j).outputs := by
  rw [Part.holdJob_eq (Part.workOf_of_defn hd)]
  simp only [Part.setState_outputs, Part.setPhase_outputs, Part.driveIdle]
  have howned : ((p.setWork j (d.work.held (p.timeLeftOf j))).unschedule j).ownedOutput j = p.ownedOutput j := by
    simp only [Part.ownedOutput, Part.unschedule_jobs, Part.setWork_defn _ hd, hd] <;> rfl
  rw [howned]
  cases p.ownedOutput j <;> rfl

theorem Part.holdJob_cells (hd : p.jobs[j].defn = some d) : (p.holdJob j).cells = (p.setPhase j none).cells := by
  rw [Part.holdJob_eq (Part.workOf_of_defn hd)]
  simp only [Part.setState_cells, Part.setPhase]
  have hcells : (((p.setWork j (d.work.held (p.timeLeftOf j))).unschedule j).driveIdle j).jobs[j].cells =
      p.jobs[j].cells := by simp
  rw [hcells]
  cases p.jobs[j].cells <;> simp [Part.setCell]

theorem actHold_job {n : Byte} (hn : n.toNat = j.val + 1) (hstate : p.jobs[j].state = .running) :
    actHold p [n] = (p.holdJob j).takenSummary j false :=
  (onJob_job hn [] _).trans (if_pos hstate)

end

/-- The time left to the entry of a job. -/
theorem Part.leftAt_of_entry {p : Part} {j : JobId} {e : DeadlineEntry} (t : Time)
    (he : p.schedule.find? (fun x => decide (x.job = j)) = some e) :
    p.leftAt j t = if reached t e.due then 0 else (e.due - t).toNat := by
  simp only [Part.leftAt, Part.entryOf, he, timeLeft]

theorem Part.timeLeftOf_eq (p : Part) (j : JobId) : p.timeLeftOf j = p.leftAt j p.time := rfl

/-- Settles O26: HOLD by the tables that it writes, and its progress by kind. -/
theorem holdKeepsAndAbandonsByKind : Obligations.HoldKeepsAndAbandonsByKind := by
  unfold Obligations.HoldKeepsAndAbandonsByKind
  intro s f j d htakes hkind hpayload hstate hd
  have hd' : s.dropFrame.jobs[j].defn = some d := hd
  have hleft (e : DeadlineEntry) (he : s.schedule.find? (fun x => decide (x.job = j)) = some e) :
      s.dropFrame.timeLeftOf j = if reached s.time e.due then 0 else (e.due - s.time).toNat :=
    Part.leftAt_of_entry (p := s.dropFrame) s.time he
  refine ⟨s.dropFrame.holdJob j, d.work.held (s.dropFrame.timeLeftOf j),
    holdRow.answers htakes hkind hpayload (actHold_job (jobNumber_byte j) hstate),
    (Part.holdJob_jobs j hd').trans (if_pos rfl), fun k hk => (Part.holdJob_jobs k hd').trans (if_neg hk),
    Part.holdJob_schedule hd', fun u hu ho => ?line, fun o ho => ?lines, fun c hc => ?cell, fun c hc => ?cells, ?frame,
    fun c g hw => by rw [hw]; rfl, fun m g hw => by rw [hw]; rfl, fun k g e hw he => by rw [hw, hleft e he]; rfl,
    fun k g e hw he => by rw [hw, hleft e he]; rfl, fun v g hw => by rw [hw]; rfl, fun x g hw => by rw [hw]; rfl⟩
  case line => rw [Part.holdJob_outputs hd']; exact Part.driveIdle_line hd' hu ho
  case lines =>
    rw [Part.holdJob_outputs hd']
    exact Part.driveIdle_others hd' fun ⟨u, hu, hl, hk⟩ => ho u hu hl hk
  case cell => rw [Part.holdJob_cells hd']; exact Part.setPhase_cell none hc
  case cells => rw [Part.holdJob_cells hd']; exact Part.setPhase_others none hc
  case frame =>
    have hrestored := (Part.DeviceEq.holdJob (p := s.dropFrame) (j := j)).restore
    rw [← Part.holdJob_deliveries s.dropFrame j, ← Part.holdJob_reports s.dropFrame j] at hrestored
    exact hrestored

end Sys2Proof.Machine
end

section
/-! SUPPORT. R11 and R16: the entry into RUNNING and RESUME, by kind. -/

namespace Sys2Proof.Machine

open Sys2Proof

section
variable {p : Part} {j : JobId} {d : Definition}

/-! ### Records written and written back -/

theorem Part.setJob_self (p : Part) (j : JobId) : p.setJob j p.jobs[j] = p := by simp [Part.setJob]

/-- A job whose own work is written again stays as it is. -/
theorem Part.setWork_self (hd : p.jobs[j].defn = some d) : p.setWork j d.work = p := by
  have hself : { p.jobs[j] with defn := p.jobs[j].defn.map (fun x => { x with work := d.work }) } = p.jobs[j] := by
    generalize p.jobs[j] = b at hd
    cases b
    simp_all
  rw [Part.setWork, hself, Part.setJob_self]

theorem Part.setWork_jobs (w : Work) (k : JobId) (hd : p.jobs[j].defn = some d) : (p.setWork j w).jobs[k] =
    if k = j then { p.jobs[j] with defn := some { d with work := w } } else p.jobs[k] := by
  by_cases hk : k = j
  · subst hk
    have hself := p.setWork_jobs_self k w
    simp only [if_true, Fin.getElem_fin] at hd ⊢
    rw [hself, hd]
    rfl
  · simp only [hk, if_false]
    exact Part.setWork_jobs_ne p w hk

/-- What a job drives goes by its definition's line and by the lines. -/
theorem Part.driveActive_outputs_congr {q : Part} (hdefn : q.jobs[j].defn.map Definition.output = p.jobs[j].defn.map Definition.output)
    (houtputs : q.outputs = p.outputs) : (q.driveActive j).outputs = (p.driveActive j).outputs := by
  have howned : q.ownedOutput j = p.ownedOutput j := by
    unfold Part.ownedOutput
    cases hq : q.jobs[j].defn with
    | none =>
      rw [hq] at hdefn
      rw [Option.map_eq_none_iff.1 hdefn.symm]
    | some x =>
      rw [hq] at hdefn
      obtain ⟨y, hy, hout⟩ := Option.map_eq_some_iff.1 hdefn.symm
      simp only [hy, hout, houtputs]
  unfold Part.driveActive
  rw [howned]
  cases p.ownedOutput j with
  | none => exact houtputs
  | some u => simp only [Part.setOutput, houtputs]

theorem Part.setPhase_cells_congr {q : Part} {ph : Option CellPhase} (hjob : q.jobs[j].cells = p.jobs[j].cells)
    (hcells : q.cells = p.cells) : (q.setPhase j ph).cells = (p.setPhase j ph).cells := by
  unfold Part.setPhase
  rw [hjob]
  cases p.jobs[j].cells with
  | nil => exact hcells
  | cons c rest => simp only [Part.setCell, hcells]

theorem Part.zeroCount_cells_congr {q : Part} (hjob : q.jobs[j].cells = p.jobs[j].cells) (hcells : q.cells = p.cells) :
    (q.zeroCount j).cells = (p.zeroCount j).cells := by
  unfold Part.zeroCount
  rw [hjob]
  cases p.jobs[j].cells with
  | nil => exact hcells
  | cons c rest => simp only [Part.setCell, hcells]

/-! ### What a kind does at its entry (R11) -/

section
variable (t : Time)

theorem Part.beginMeasure_jobs {m : MeasureParams} {g : MeasureProgress} (hd : p.jobs[j].defn = some d)
    (hw : d.work = .measure m g) : (p.beginMeasure j m g t).jobs = (p.setWork j (d.work.atEntry t)).jobs := by
  have hself := congrArg Part.jobs (Part.setWork_self hd)
  rw [hw] at hself ⊢
  cases hmode : m.mode with
  | period =>
    cases hstall : m.stall with
    | true => simp only [Part.beginMeasure, Work.atEntry, hmode, hstall, if_true, Part.place_jobs]
    | false => simpa only [Part.beginMeasure, Work.atEntry, hmode, hstall, Bool.false_eq_true, if_false] using hself.symm
  | high => simpa only [Part.beginMeasure, Work.atEntry, hmode] using hself.symm
  | low => simpa only [Part.beginMeasure, Work.atEntry, hmode] using hself.symm
  | rate edge window => simp only [Part.beginMeasure, Work.atEntry, hmode, Part.place_jobs, Part.zeroCount_jobs]

/-- The record after the entry: the progress right after it, and nothing else. -/
theorem Part.beginKind_jobs (hd : p.jobs[j].defn = some d) :
    (p.beginKind j t).jobs = (p.setWork j (d.work.atEntry t)).jobs := by
  have hself := congrArg Part.jobs (Part.setWork_self hd)
  have hw := Part.workOf_of_defn hd
  unfold Part.beginKind
  cases hwork : d.work with
  | count c g => rw [hwork] at hself hw; simpa only [hw, Work.atEntry, Part.place_jobs] using hself.symm
  | measure m g =>
    rw [hwork] at hw
    simp only [hw]
    rw [Part.beginMeasure_jobs t hd hwork, hwork]
  | delay k g => rw [hwork] at hself hw; simpa only [hw, Work.atEntry, Part.place_jobs, Part.driveActive_jobs] using hself.symm
  | tick k g => rw [hwork] at hself hw; simpa only [hw, Work.atEntry, Part.place_jobs] using hself.symm
  | wave v g =>
    rw [hwork] at hw
    simp only [hw, Part.beginPeriod, Part.setPhase_jobs, Part.driveActive_jobs]
    rfl
  | echo x g => rw [hwork] at hself hw; simpa only [hw, Work.atEntry, Part.place_jobs] using hself.symm

/-- The entry that a kind places (R62, R68, R86, R92). -/
theorem Part.beginKind_schedule (hd : p.jobs[j].defn = some d) : (p.beginKind j t).schedule =
    (match d.work.entryDeadline t with
      | none => p.schedule
      | some x => (p.place j x.1 x.2).schedule) := by
  have hw := Part.workOf_of_defn hd
  unfold Part.beginKind
  cases hwork : d.work with
  | count c g => rw [hwork] at hw; simp only [hw, Work.entryDeadline]
  | measure m g =>
    rw [hwork] at hw
    cases hmode : m.mode with
    | period =>
      cases hstall : m.stall with
      | true => simp [hw, Part.beginMeasure, Work.entryDeadline, hmode, hstall, Part.place_schedule, stallDue]
      | false => simp [hw, Part.beginMeasure, Work.entryDeadline, hmode, hstall]
    | high => simp [hw, Part.beginMeasure, Work.entryDeadline, hmode]
    | low => simp [hw, Part.beginMeasure, Work.entryDeadline, hmode]
    | rate edge window => simp [hw, Part.beginMeasure, Work.entryDeadline, hmode, Part.place_schedule]
  | delay k g => rw [hwork] at hw; simp only [hw, Work.entryDeadline, Part.driveActive_schedule]
  | tick k g => rw [hwork] at hw; simp only [hw, Work.entryDeadline]
  | wave v g => rw [hwork] at hw; simp only [hw, Work.entryDeadline, Part.beginPeriod_schedule]
  | echo x g => rw [hwork] at hw; simp only [hw, Work.entryDeadline]

/-- DELAY and WAVE drive the line of their job active, the other kinds none (R86, R102). -/
theorem Part.beginKind_outputs (hd : p.jobs[j].defn = some d) : (p.beginKind j t).outputs =
    if d.work.activeAtEntry then (p.driveActive j).outputs else p.outputs := by
  have hw := Part.workOf_of_defn hd
  unfold Part.beginKind
  cases hwork : d.work with
  | count c g => rw [hwork] at hw; simp only [hw, Work.activeAtEntry, Bool.false_eq_true, if_false]
  | measure m g => rw [hwork] at hw; simp only [hw, Work.activeAtEntry, Bool.false_eq_true, if_false, Part.beginMeasure_outputs]
  | delay k g =>
    rw [hwork] at hw
    simp only [hw, Work.activeAtEntry, if_true]
    exact Part.driveActive_outputs_congr rfl rfl
  | tick k g => rw [hwork] at hw; simp only [hw, Work.activeAtEntry, Bool.false_eq_true, if_false, Part.place_outputs]
  | wave v g =>
    rw [hwork] at hw
    simp only [hw, Work.activeAtEntry, if_true, Part.beginPeriod, Part.setPhase_outputs]
    refine Part.driveActive_outputs_congr ?_ rfl
    rw [Part.setWork_defn _ hd, hd]
    rfl
  | echo x g => rw [hwork] at hw; simp only [hw, Work.activeAtEntry, Bool.false_eq_true, if_false]

/-- A WAVE job's cell gets the active phase, a RATE job's cell the count 0, and no other cell changes (R68, R102). -/
theorem Part.beginKind_cells (hd : p.jobs[j].defn = some d) :
    (∀ v g, d.work = .wave v g →
      (p.beginKind j t).cells = (p.setPhase j (some { start := t, length := v.width })).cells) ∧
    (∀ m g sel window, d.work = .measure m g → m.mode = .rate sel window →
      (p.beginKind j t).cells = (p.zeroCount j).cells) ∧
    ((∀ v g, d.work ≠ .wave v g) → (∀ m g sel window, d.work = .measure m g → m.mode ≠ .rate sel window) →
      (p.beginKind j t).cells = p.cells) := by
  have hw := Part.workOf_of_defn hd
  refine ⟨fun v g hwork => ?wave, fun m g sel window hwork hmode => ?rate, fun hwave hrate => ?other⟩
  case wave =>
    rw [hwork] at hw
    simp only [Part.beginKind, hw, Part.beginPeriod]
    exact Part.setPhase_cells_congr (by simp) (by simp)
  case rate =>
    rw [hwork] at hw
    simp only [Part.beginKind, hw, Part.beginMeasure, hmode, Part.place_cells]
    exact Part.zeroCount_cells_congr (by simp) (by simp)
  case other =>
    unfold Part.beginKind
    cases hwork : d.work with
    | count c g => rw [hwork] at hw; simp only [hw]
    | measure m g =>
      rw [hwork] at hw
      cases hmode : m.mode with
      | period => cases hstall : m.stall <;> simp [hw, Part.beginMeasure, hmode, hstall]
      | high => simp [hw, Part.beginMeasure, hmode]
      | low => simp [hw, Part.beginMeasure, hmode]
      | rate edge window => exact absurd hmode (hrate m g edge window hwork)
    | delay k g => rw [hwork] at hw; simp [hw]
    | tick k g => rw [hwork] at hw; simp [hw]
    | wave v g => exact absurd hwork (hwave v g)
    | echo x g => rw [hwork] at hw; simp [hw]

end

end

end Sys2Proof.Machine
end

section
/-! SUPPORT. R11 and R16: what the entry into RUNNING and RESUME come to. -/

namespace Sys2Proof.Machine

open Sys2Proof

section
variable {p : Part} {j : JobId} {d : Definition}

/-- The record of a job that is about to enter RUNNING at `t` (R11). -/
def Part.entering (p : Part) (j : JobId) (d : Definition) (t : Time) : Part :=
  p.setJob j { p.jobs[j] with state := .running, defn := some { d with entryTime := t } }

theorem Part.enterRunning_entering (t : Time) (hd : p.jobs[j].defn = some d) :
    p.enterRunning j t = (p.entering j d t).beginKind j t := by rw [Part.enterRunning, hd]; rfl

theorem Part.entering_job (t : Time) : (p.entering j d t).jobs[j] =
    { p.jobs[j] with state := .running, defn := some { d with entryTime := t } } := Part.setJob_jobs_self ..

theorem Part.entering_defn (t : Time) : (p.entering j d t).jobs[j].defn = some { d with entryTime := t } :=
  congrArg Job.defn (Part.entering_job t)

end

/-- Settles O41, by what each kind does at its entry. -/
theorem entryIntoRunningByKind : Obligations.EntryIntoRunningByKind := by
  unfold Obligations.EntryIntoRunningByKind
  intro p j d t q hd hq
  rw [Part.enterRunning_entering t hd] at hq
  have hd' := Part.entering_defn (p := p) (j := j) (d := d) t
  have hjobs := congrArg Part.jobs hq
  rw [Part.beginKind_jobs t hd'] at hjobs
  have hjob (k : JobId) : q.jobs[k] = if k = j then
      { p.jobs[j] with state := .running, defn := some { d with entryTime := t, work := d.work.atEntry t } }
      else p.jobs[k] := by
    rw [hjobs, Part.setWork_jobs _ k hd', Part.entering_job]
    split
    · rfl
    · exact Part.setJob_jobs_ne _ _ ‹_›
  have houtputs := congrArg Part.outputs hq
  rw [Part.beginKind_outputs t hd'] at houtputs
  have hactive : ((p.entering j d t).driveActive j).outputs = (p.driveActive j).outputs :=
    Part.driveActive_outputs_congr (by rw [hd', hd]; rfl) rfl
  obtain ⟨hwave, hrate, hother⟩ := Part.beginKind_cells t hd'
  rw [← hq] at hwave hrate hother
  have hcellsOf : (p.entering j d t).jobs[j].cells = p.jobs[j].cells := by rw [Part.entering_job]
  have hphase (length : Nat) : ((p.entering j d t).setPhase j (some { start := t, length := length })).cells =
      (p.setPhase j (some { start := t, length := length })).cells := Part.setPhase_cells_congr hcellsOf rfl
  have hzero : ((p.entering j d t).zeroCount j).cells = (p.zeroCount j).cells := Part.zeroCount_cells_congr hcellsOf rfl
  refine ⟨(hjob j).trans (if_pos rfl), fun k hk => (hjob k).trans (if_neg hk), fun hnone => ?noEntry,
    fun purpose due hdeadline => ?entry, fun u hu ho hactiveAt => ?line, fun o ho => ?lines, fun c v g hw hc => ?waveCell,
    fun c m g sel window hw hmode hc => ?rateCell, fun c hc => ?cells, hother, ?frame⟩
  case noEntry =>
    rw [hq, Part.beginKind_schedule t hd', hnone]
    rfl
  case entry =>
    rw [hq, Part.beginKind_schedule t hd', hdeadline]
    rfl
  case line =>
    rw [houtputs, if_pos hactiveAt, hactive, Part.driveActive_line hd hu ho]
    cases u.idle <;> rfl
  case lines =>
    rw [houtputs]
    split
    case isTrue hactiveAt =>
      rw [hactive]
      refine Part.driveActive_others hd fun ⟨u, hu, hl, hk⟩ => ?_
      rcases ho with hno | ho
      · exact absurd (hactiveAt.symm.trans hno) (by decide)
      · exact ho u hu hl hk
    case isFalse => rfl
  case waveCell => rw [hwave v g hw, hphase]; exact Part.setPhase_cell _ hc
  case rateCell => rw [hrate m g sel window hw hmode, hzero]; exact Part.zeroCount_cell hc
  case cells =>
    by_cases hkind : ∃ v g, d.work = .wave v g
    · obtain ⟨v, g, hw⟩ := hkind
      rw [hwave v g hw, hphase]
      exact Part.setPhase_others _ hc
    · by_cases hmode : ∃ m g sel window, d.work = .measure m g ∧ m.mode = .rate sel window
      · obtain ⟨m, g, sel, window, hw, hmode⟩ := hmode
        rw [hrate m g sel window hw hmode, hzero]
        exact Part.zeroCount_others hc
      · have hsame := hother (fun v g hw => hkind ⟨v, g, hw⟩) fun m g sel window hw hm => hmode ⟨m, g, sel, window, hw, hm⟩
        rw [hsame]
        rfl
  case frame =>
    rw [hq, ← Part.enterRunning_entering t hd]
    have hrestored := (Part.DeviceEq.enterRunning (p := p) (j := j) t).restore
    rw [← Part.enterRunning_deliveries p j t, ← Part.enterRunning_reports p j t] at hrestored
    exact hrestored

/-! ### RESUME (R16) -/

section
variable {p : Part} {j : JobId} {d : Definition}

theorem actResume_job {n : Byte} (hn : n.toNat = j.val + 1) (hstate : p.jobs[j].state = .held) :
    actResume p [n] = (p.resumeJob j).takenSummary j false :=
  (onJob_job hn [] _).trans (if_pos hstate)

theorem Part.setState_defn (st : JobState) : (p.setState j st).jobs[j].defn = p.jobs[j].defn := by simp

theorem Part.setState_workOf (st : JobState) (hd : p.jobs[j].defn = some d) : (p.setState j st).workOf j = some d.work :=
  Part.workOf_of_defn ((Part.setState_defn st).trans hd)

/-- RESUME writes no more of a definition than its work. -/
theorem Part.resumeJob_defn (hd : p.jobs[j].defn = some d) :
    ∃ w, (p.resumeJob j).jobs[j].defn = some { d with work := w } := by
  have hd' : (p.setState j .running).jobs[j].defn = some d := (Part.setState_defn _).trans hd
  have hw := Part.workOf_of_defn hd'
  unfold Part.resumeJob
  cases hwork : d.work with
  | count c g => rw [hwork] at hw; simp only [hw]; exact ⟨d.work, hd'⟩
  | measure m g =>
    rw [hwork] at hw
    simp only [hw]
    have hjobs := Part.beginMeasure_jobs (p.setState j .running).time hd' hwork
    exact ⟨_, (congrArg (fun jobs : Vector Job 32 => jobs[j].defn) hjobs).trans (Part.setWork_defn _ hd')⟩
  | delay k g => rw [hwork] at hw; simp only [hw, Part.driveActive_jobs, Part.place_jobs]; exact ⟨d.work, hd'⟩
  | tick k g => rw [hwork] at hw; simp only [hw, Part.place_jobs]; exact ⟨d.work, hd'⟩
  | wave v g =>
    rw [hwork] at hw
    have hd'' : ((p.setState j .running).setStaged j none).jobs[j].defn = some d := by simpa using hd
    simp only [hw, Part.beginPeriod, Part.setPhase_jobs, Part.driveActive_jobs]
    exact ⟨_, Part.setWork_defn _ hd''⟩
  | echo x g => rw [hwork] at hw; simp only [hw]; exact ⟨d.work, hd'⟩

end

theorem Part.setStaged_none_self {p : Part} {j : JobId} (h : p.jobs[j].staged = none) : p.setStaged j none = p := by
  have hself : { p.jobs[j] with staged := none } = p.jobs[j] := by
    generalize p.jobs[j] = b at h
    cases b
    simp_all
  rw [Part.setStaged, hself, Part.setJob_self]

/-- Settles O27, by what each kind goes on with. -/
theorem resumeGoesOnByKind : Obligations.ResumeGoesOnByKind := by
  unfold Obligations.ResumeGoesOnByKind
  intro s f j d htakes hkind hpayload hstate hd
  have hd' : s.dropFrame.jobs[j].defn = some d := hd
  have hw := Part.setState_workOf .running hd'
  have hstaged : (s.dropFrame.setState j .running).jobs[j].staged = s.jobs[j].staged := by simp
  refine ⟨s.dropFrame.setState j .running, s.dropFrame.resumeJob j, rfl,
    resumeRow.answers htakes hkind hpayload (actResume_job (jobNumber_byte j) hstate), ?entryTime, fun hcount => ?waits,
    fun k g hwork => ?delay, fun k g hwork => ?tick, fun m g hwork hmode => ?measure, fun m g hwork hmode hstall => ?stall,
    fun m g edge window hwork hmode => ?window, fun v g hwork => ⟨fun period width hpair => ?pair, fun hnone => ?wave⟩⟩
  case entryTime =>
    obtain ⟨w, hdefn⟩ := Part.resumeJob_defn hd'
    exact ⟨_, hdefn, rfl⟩
  case waits =>
    cases hwork : d.work with
    | count c g => rw [hwork] at hw; simp only [Part.resumeJob, hw]
    | echo x g => rw [hwork] at hw; simp only [Part.resumeJob, hw]
    | measure m g => rw [hwork] at hcount; rcases hcount with h | h <;> cases h
    | delay k g => rw [hwork] at hcount; rcases hcount with h | h <;> cases h
    | tick k g => rw [hwork] at hcount; rcases hcount with h | h <;> cases h
    | wave v g => rw [hwork] at hcount; rcases hcount with h | h <;> cases h
  case delay => rw [hwork] at hw; simp only [Part.resumeJob, hw]; rfl
  case tick => rw [hwork] at hw; simp only [Part.resumeJob, hw]; rfl
  case measure =>
    rw [hwork] at hw
    simp only [Part.resumeJob, hw, Part.beginMeasure]
    rcases hmode with hmode | hmode | ⟨hmode, hstall⟩
    · rw [hmode]
    · rw [hmode]
    · rw [hmode]
      exact if_neg (by rw [hstall]; decide)
  case stall =>
    rw [hwork] at hw
    simp only [Part.resumeJob, hw, Part.beginMeasure, hmode, hstall, if_true]
    rfl
  case window =>
    rw [hwork] at hw
    simp only [Part.resumeJob, hw, Part.beginMeasure, hmode]
    rfl
  case pair =>
    rw [hwork] at hw
    simp only [Part.resumeJob, hw, hstaged, hpair]
    rfl
  case wave =>
    rw [hwork] at hw
    simp only [Part.resumeJob, hw, hstaged, hnone]
    rw [Part.setStaged_none_self (hstaged.trans hnone)]
    rfl

end Sys2Proof.Machine
end

section
/-! SUPPORT. R126 to R130: how far a cascade of STOP links goes, the reports it leaves, and what becomes of its source. -/

namespace Sys2Proof.Machine

open Sys2Proof

/-! ### The bound on the links is never used up (R128) -/

section
variable {p : Part} {j : JobId} {d : Definition} {cause : EndCause} {endTime : Time} {sample : Nat}

theorem Part.endSteps_state (hd : p.jobs[j].defn = some d) : (p.endSteps j cause endTime sample).jobs[j].state = .ended := by
  rw [Part.endSteps_jobs cause endTime sample hd]

/-- A job that is live after the steps of an ending is another one, and was live before. -/
theorem Part.live_of_endSteps {t : JobId} (hd : p.jobs[j].defn = some d)
    (ht : (p.endSteps j cause endTime sample).jobs[t].state.live = true) : t ≠ j ∧ p.jobs[t].state.live = true := by
  have hne : t ≠ j := by
    rintro rfl
    rw [Part.endSteps_state hd] at ht
    cases ht
  rw [Part.endSteps_jobs_ne cause endTime sample hd hne] at ht
  exact ⟨hne, ht⟩

theorem Part.defn_of_endActionOf {action : EndAction} (h : p.endActionOf j = some action) :
    ∃ d, p.jobs[j].defn = some d ∧ d.endAction = some action := by
  unfold Part.endActionOf at h
  split at h
  · cases h
  · exact ⟨_, ‹_›, h⟩

/-- An ending goes by what a STOP link does to the live targets that it leaves. -/
theorem Part.endWith_congr {stop stop' : Part → JobId → Part}
    (h : ∀ d t, p.jobs[j].defn = some d → (p.endSteps j cause endTime sample).jobs[t].state.live = true →
      stop (p.endSteps j cause endTime sample) t = stop' (p.endSteps j cause endTime sample) t) :
    Part.endWith stop p j cause endTime sample = Part.endWith stop' p j cause endTime sample := by
  unfold Part.endWith
  cases haction : p.endActionOf j with
  | none => rfl
  | some action =>
    obtain ⟨d, hd, -⟩ := Part.defn_of_endActionOf haction
    have hperform : Part.perform stop (p.endSteps j cause endTime sample) cause action =
        Part.perform stop' (p.endSteps j cause endTime sample) cause action := by
      unfold Part.perform
      split
      · rfl
      · cases action with
        | start t => rfl
        | stop t =>
          dsimp only
          split
          · exact h d t hd ‹_›
          · rfl
    simp only [hperform]

end

/-- One more link makes no difference once the links allowed are as many as the other live jobs. -/
theorem Part.cascade_stable (n : Nat) : ∀ (p : Part) (j : JobId) (cause : EndCause) (endTime : Time) (sample : Nat)
    (others : Finset JobId), others.card ≤ n → j ∉ others →
    (∀ k, k ≠ j → p.jobs[k].state.live = true → k ∈ others) →
    Part.cascade (n + 1) p j cause endTime sample = Part.cascade n p j cause endTime sample := by
  induction n with
  | zero =>
    intro p j cause endTime sample others hcard hj hlive
    refine Part.endWith_congr fun d t hd ht => ?_
    obtain ⟨hne, hbefore⟩ := Part.live_of_endSteps hd ht
    have hmem := hlive t hne hbefore
    rw [Finset.card_eq_zero.1 (Nat.le_zero.1 hcard)] at hmem
    exact absurd hmem (Finset.notMem_empty t)
  | succ n ih =>
    intro p j cause endTime sample others hcard hj hlive
    rw [Part.cascade_succ, Part.cascade_succ]
    refine Part.endWith_congr fun d t hd ht => ?_
    obtain ⟨hne, hbefore⟩ := Part.live_of_endSteps hd ht
    have hmem := hlive t hne hbefore
    refine ih _ t .linkedStop _ 0 (others.erase t) ?_ (Finset.notMem_erase t others) fun k hk hklive => ?_
    · rw [Finset.card_erase_of_mem hmem]
      omega
    · obtain ⟨hkj, hkbefore⟩ := Part.live_of_endSteps hd hklive
      exact Finset.mem_erase.2 ⟨hk, hlive k hkj hkbefore⟩

/-- An ending, whose STOP link ends a live target by a whole ending of its own (R126, R128). -/
theorem Part.endJob_endWith (p : Part) (j : JobId) (cause : EndCause) (endTime : Time) (sample : Nat) :
    p.endJob j cause endTime sample =
      Part.endWith (fun q t => q.endJob t .linkedStop q.time 0) p j cause endTime sample := by
  rw [Part.endJob_eq]
  refine Part.endWith_congr fun d t hd ht => ?_
  refine (Part.cascade_stable 31 _ t .linkedStop _ 0 (Finset.univ.erase t) ?_ (Finset.notMem_erase t _) fun k hk _ => ?_).symm
  · rw [Finset.card_erase_of_mem (Finset.mem_univ t), Finset.card_univ, Fintype.card_fin]
  · exact Finset.mem_erase.2 ⟨hk, Finset.mem_univ k⟩

/-- A job with no definition has nothing to end. -/
theorem Part.cascade_of_none (n : Nat) {p : Part} {j : JobId} (cause : EndCause) (endTime : Time) (sample : Nat)
    (h : p.jobs[j].defn = none) : Part.cascade n p j cause endTime sample = p := by
  have haction : p.endActionOf j = none := by simp only [Part.endActionOf, h]
  have hsteps := Part.endSteps_of_none h cause endTime sample
  cases n with
  | zero => exact (Part.endWith_none haction).trans hsteps
  | succ n => exact (Part.endWith_none haction).trans hsteps

/-! ### What a START link does to the jobs (R125) -/

section
variable {p : Part} {j k : JobId}

theorem Part.enterRunning_jobs_ne (t : Time) (hk : k ≠ j) : (p.enterRunning j t).jobs[k] = p.jobs[k] := by
  cases hd : p.jobs[j].defn with
  | some d =>
    have hjobs := Part.beginKind_jobs t (Part.entering_defn (p := p) (j := j) (d := d) t)
    rw [Part.enterRunning_entering t hd]
    have hset := congrArg (fun jobs : Vector Job 32 => jobs[k]) hjobs
    refine hset.trans (((Part.setWork_jobs _ k (Part.entering_defn t)).trans (if_neg hk)).trans ?_)
    exact Part.setJob_jobs_ne _ _ hk
  | none =>
    have hnone : (p.setJob j { p.jobs[j] with state := .running, defn := none }).workOf j = none := by simp [Part.workOf]
    rw [Part.enterRunning, hd]
    simp only [Option.map_none, Part.beginKind, hnone]
    exact Part.setJob_jobs_ne _ _ hk

theorem Part.enterRunning_state (t : Time) : (p.enterRunning j t).jobs[j].state = .running :=
  (Steady.enterRunning t).state.trans (by simp)

/-- A START link changes the record of its target alone, and then leaves it RUNNING. -/
theorem Part.startLink_jobs (t : JobId) :
    (p.startLink t).1.jobs[k] = p.jobs[k] ∨ (k = t ∧ (p.startLink t).1.jobs[k].state = .running) := by
  have hentered (q : Part) (hq : ∀ x, x ≠ t → q.jobs[x] = p.jobs[x]) :
      (q.enterRunning t p.time).jobs[k] = p.jobs[k] ∨ (k = t ∧ (q.enterRunning t p.time).jobs[k].state = .running) := by
    by_cases hk : k = t
    · subst hk
      exact .inr ⟨rfl, Part.enterRunning_state _⟩
    · exact .inl ((Part.enterRunning_jobs_ne _ hk).trans (hq k hk))
  have hgranted (d : Definition) (cs : List CellId) (x : JobId) (hx : x ≠ t) : (p.grant t d cs).jobs[x] = p.jobs[x] :=
    (Part.grant_jobs p t x d cs).trans (if_neg hx)
  unfold Part.startLink
  split
  case h_1 => exact hentered p fun _ _ => rfl
  case h_2 => split <;> first | exact .inl rfl | exact hentered _ (hgranted _ _)
  case h_3 => split <;> first | exact .inl rfl | exact hentered _ (hgranted _ _)
  all_goals exact .inl rfl

/-! ### The job that ended first -/

/-- An ending of another job leaves a job that is not live as it is, or starts it. -/
theorem Part.endWith_jobs_other {stop : Part → JobId → Part} {t : JobId} (cause : EndCause) (endTime : Time) (sample : Nat)
    (hstop : ∀ (q : Part) (u : JobId), k ≠ u → q.jobs[k].state.live = false →
      (stop q u).jobs[k] = q.jobs[k] ∨ (stop q u).jobs[k].state = .running)
    (hk : k ≠ t) (hlive : p.jobs[k].state.live = false) :
    (Part.endWith stop p t cause endTime sample).jobs[k] = p.jobs[k] ∨
      (Part.endWith stop p t cause endTime sample).jobs[k].state = .running := by
  have hsteps : (p.endSteps t cause endTime sample).jobs[k] = p.jobs[k] := by
    cases hd : p.jobs[t].defn with
    | some d => exact Part.endSteps_jobs_ne cause endTime sample hd hk
    | none => rw [Part.endSteps_of_none hd]
  obtain ⟨-, heq⟩ | ⟨r, o, heq, hr⟩ := Part.endWith_cases stop p t cause endTime sample
  · rw [heq]; exact .inl hsteps
  · have hrecord : (r.recordOutcome t p.reports.nextSeq o).jobs[k] = r.jobs[k] := Part.setJob_jobs_ne _ _ hk
    rw [heq, hrecord]
    rcases hr with rfl | ⟨u, rfl⟩ | ⟨u, hulive, rfl⟩
    · exact .inl hsteps
    · exact (Part.startLink_jobs u).imp (fun h => h.trans hsteps) fun h => h.2
    · refine (hstop _ u ?_ (hsteps ▸ hlive)).imp (fun h => h.trans hsteps) id
      rintro rfl
      rw [hsteps, hlive] at hulive
      cases hulive

theorem Part.cascade_jobs_other (n : Nat) : ∀ (p : Part) (t : JobId) (cause : EndCause) (endTime : Time) (sample : Nat),
    k ≠ t → p.jobs[k].state.live = false →
    (Part.cascade n p t cause endTime sample).jobs[k] = p.jobs[k] ∨
      (Part.cascade n p t cause endTime sample).jobs[k].state = .running := by
  induction n with
  | zero => exact fun p t cause endTime sample => Part.endWith_jobs_other cause endTime sample fun _ _ _ _ => .inl rfl
  | succ n ih =>
    exact fun p t cause endTime sample => Part.endWith_jobs_other cause endTime sample fun q u => ih q u .linkedStop q.time 0

end

/-! ### The reports of a cascade (R27, R127, R128) -/

/-- What no link outcome and no start changes of a report. -/
def ReportContent.bare : ReportContent → ReportContent
  | .ended cause final aux _ => .ended cause final aux .none
  | .restart cause revision => .restart cause revision
  | .progress count => .progress count
  | .sample value accepted => .sample value accepted
  | .tick number merged => .tick number merged

/-- The sequence, the job and the bare content of a report. -/
def ReportEntry.core (e : ReportEntry) : BitVec 16 × Option JobId × ReportContent := (e.seq, e.job, e.content.bare)

theorem ReportEntry.setOutcome_core (e : ReportEntry) (seq : BitVec 16) (o : LinkOutcome) :
    (e.setOutcome seq o).core = e.core := by
  unfold ReportEntry.setOutcome
  split
  · split
    · rename_i hc
      simp only [ReportEntry.core, hc, ReportContent.bare]
    all_goals rfl
  · rfl

/-- The cores of the reports that are queued. -/
def Part.cores (p : Part) : List (BitVec 16 × Option JobId × ReportContent) := p.reports.queue.map ReportEntry.core

section
variable {p : Part} {j : JobId} {d : Definition} {cause : EndCause} {endTime : Time} {sample : Nat}

theorem Part.recordOutcome_cores (seq : BitVec 16) (o : LinkOutcome) : (p.recordOutcome j seq o).cores = p.cores := by
  rw [Part.cores, Part.recordOutcome, Part.setJob_reports, List.map_map]
  exact List.map_congr_left fun e _ => e.setOutcome_core seq o

theorem Part.grant_cores (cs : List CellId) : (p.grant j d cs).cores = p.cores := by
  rw [Part.cores, Part.grant_reports, List.map_map]
  refine List.map_congr_left fun e _ => ?_
  simp only [Function.comp_apply]
  split <;> rfl

theorem Part.startLink_cores (t : JobId) : (p.startLink t).1.cores = p.cores := by
  have hentered (q : Part) (hq : q.cores = p.cores) : (q.enterRunning t p.time).cores = p.cores := by
    rw [Part.cores, Part.enterRunning_reports]
    exact hq
  unfold Part.startLink
  split
  case h_1 => exact hentered p rfl
  case h_2 => split <;> first | rfl | exact hentered _ (Part.grant_cores _)
  case h_3 => split <;> first | rfl | exact hentered _ (Part.grant_cores _)
  all_goals rfl

/-- The core of the END report of an ending. -/
def Part.endCore (p : Part) (j : JobId) (d : Definition) (cause : EndCause) (endTime : Time) (sample : Nat) :
    BitVec 16 × Option JobId × ReportContent :=
  (p.reports.nextSeq, some j, .ended cause (p.endValues j d.work cause endTime sample).final
    (p.endValues j d.work cause endTime sample).aux .none)

theorem Part.endSteps_cores (hd : p.jobs[j].defn = some d) :
    (p.endSteps j cause endTime sample).cores = p.cores ++ [p.endCore j d cause endTime sample] := by
  rw [Part.cores, Part.endSteps_reports cause endTime sample hd, List.map_append]
  rfl

/-- END reports of STOP links: one for each of the jobs, with LINKED_STOP. -/
def LinkedStops (jobs : List JobId) (new : List (BitVec 16 × Option JobId × ReportContent)) : Prop :=
  new.map (fun c => c.2.1) = jobs.map some ∧ ∀ c ∈ new, ∃ final aux, c.2.2 = .ended .linkedStop final aux .none

theorem linkedStops_nil : LinkedStops [] [] := ⟨rfl, fun _ hc => absurd hc List.not_mem_nil⟩

/-- What a STOP link leaves in the queue: the END reports of distinct jobs that were live (R128). -/
def StopsLive (q r : Part) : Prop :=
  ∃ stopped new, stopped.Nodup ∧ (∀ k ∈ stopped, q.jobs[k].state.live = true) ∧ LinkedStops stopped new ∧
    r.cores = q.cores ++ new

theorem StopsLive.of_cores {q r : Part} (h : r.cores = q.cores) : StopsLive q r :=
  ⟨[], [], List.nodup_nil, fun _ hk => absurd hk List.not_mem_nil, linkedStops_nil, h.trans (List.append_nil _).symm⟩

/-- An ending appends the END report of its source, then those of distinct jobs that were live (R128). -/
theorem Part.endWith_cores {stop : Part → JobId → Part} (cause : EndCause) (endTime : Time) (sample : Nat)
    (hstop : ∀ (q : Part) (t : JobId), q.jobs[t].state.live = true → StopsLive q (stop q t)) (hd : p.jobs[j].defn = some d) :
    ∃ stopped new, (j :: stopped).Nodup ∧ (∀ k ∈ stopped, p.jobs[k].state.live = true) ∧ LinkedStops stopped new ∧
      (Part.endWith stop p j cause endTime sample).cores = p.cores ++ p.endCore j d cause endTime sample :: new := by
  have hsteps := Part.endSteps_cores (cause := cause) (endTime := endTime) (sample := sample) hd
  have haction (r : Part) (hr : StopsLive (p.endSteps j cause endTime sample) r) : ∃ stopped new, (j :: stopped).Nodup ∧
      (∀ k ∈ stopped, p.jobs[k].state.live = true) ∧ LinkedStops stopped new ∧
      r.cores = p.cores ++ p.endCore j d cause endTime sample :: new := by
    obtain ⟨stopped, new, hnodup, hlives, hlinked, hcores⟩ := hr
    refine ⟨stopped, new, List.nodup_cons.2 ⟨fun hj => ?_, hnodup⟩, fun k hk => (Part.live_of_endSteps hd (hlives k hk)).2,
      hlinked, by rw [hcores, hsteps, List.append_assoc, List.singleton_append]⟩
    exact (Part.live_of_endSteps hd (hlives j hj)).1 rfl
  obtain ⟨-, heq⟩ | ⟨r, o, heq, hr⟩ := Part.endWith_cases stop p j cause endTime sample
  · rw [heq]
    exact haction _ (.of_cores rfl)
  · rw [heq, Part.recordOutcome_cores]
    rcases hr with rfl | ⟨u, rfl⟩ | ⟨u, hlive, rfl⟩
    · exact haction _ (.of_cores rfl)
    · exact haction _ (.of_cores (Part.startLink_cores u))
    · exact haction _ (hstop _ u hlive)

theorem Part.cascade_cores (n : Nat) : ∀ (p : Part) (j : JobId) (d : Definition) (cause : EndCause) (endTime : Time)
    (sample : Nat), p.jobs[j].defn = some d → ∃ stopped new, (j :: stopped).Nodup ∧
      (∀ k ∈ stopped, p.jobs[k].state.live = true) ∧ LinkedStops stopped new ∧
      (Part.cascade n p j cause endTime sample).cores = p.cores ++ p.endCore j d cause endTime sample :: new := by
  induction n with
  | zero => exact fun p j d cause endTime sample => Part.endWith_cores cause endTime sample fun _ _ _ => .of_cores rfl
  | succ n ih =>
    refine fun p j d cause endTime sample => Part.endWith_cores cause endTime sample fun q t ht => ?_
    cases hdt : q.jobs[t].defn with
    | none => exact .of_cores (congrArg Part.cores (Part.cascade_of_none n .linkedStop q.time 0 hdt))
    | some dt =>
      obtain ⟨stopped, new, hnodup, hlives, hlinked, hcores⟩ := ih q t dt .linkedStop q.time 0 hdt
      refine ⟨t :: stopped, q.endCore t dt .linkedStop q.time 0 :: new, hnodup, fun k hk => ?_,
        ⟨congrArg (some t :: ·) hlinked.1, fun c hc => ?_⟩, hcores⟩
      · rcases List.mem_cons.1 hk with rfl | hk
        · exact ht
        · exact hlives k hk
      · rcases List.mem_cons.1 hc with rfl | hc
        · exact ⟨_, _, rfl⟩
        · exact hlinked.2 c hc

end

end Sys2Proof.Machine
end

section
/-! SUPPORT. R12 to R14 and R126 to R128: STOP, and what an ending with its cascade leaves of the job and of its END report. -/

namespace Sys2Proof.Machine

open Sys2Proof

/-! ### The result and the END report of an ending (R27, R127) -/

section
variable {p : Part} {j : JobId} {d : Definition} {cause : EndCause} {endTime : Time} {sample : Nat}

/-- A link outcome is written into the END report with its sequence. -/
theorem ReportEntry.setOutcome_ended {e : ReportEntry} {final aux : Nat} {o' : LinkOutcome} (o : LinkOutcome)
    (hc : e.content = .ended cause final aux o') : e.setOutcome e.seq o = { e with content := .ended cause final aux o } := by
  simp only [ReportEntry.setOutcome, if_true, hc]

theorem ReportContent.ended_of_bare {c : ReportContent} {final aux : Nat} (h : c.bare = .ended cause final aux .none) :
    ∃ o, c = .ended cause final aux o := by
  cases c with
  | ended cause' final' aux' o =>
    simp only [ReportContent.bare, ReportContent.ended.injEq] at h
    obtain ⟨rfl, rfl, rfl, -⟩ := h
    exact ⟨o, rfl⟩
  | restart _ _ => cases h
  | progress _ => cases h
  | sample _ _ => cases h
  | tick _ _ => cases h

/-- The outcome that the action of a job comes to; NONE with no action. -/
def Part.outcomeOf (p : Part) (j : JobId) (d : Definition) (cause : EndCause) (endTime : Time) (sample : Nat) : LinkOutcome :=
  match d.endAction with
  | none => .none
  | some action => (p.endSteps j cause endTime sample).actionOutcome cause action

/-- The result of an ending, with the outcome of its action. -/
def Part.endResult (p : Part) (j : JobId) (d : Definition) (cause : EndCause) (endTime : Time) (sample : Nat) : Result :=
  { cause := cause, final := (p.endValues j d.work cause endTime sample).final,
    aux := (p.endValues j d.work cause endTime sample).aux, endTime := endTime,
    outcome := p.outcomeOf j d cause endTime sample }

theorem Part.endActionOf_of_defn (hd : p.jobs[j].defn = some d) : p.endActionOf j = d.endAction := by
  simp only [Part.endActionOf, hd]

/-- What an ending does once its steps are done: nothing, or its action, whose outcome it then records. -/
theorem Part.endJob_perform (hd : p.jobs[j].defn = some d) : (d.endAction = none ∧
      p.endJob j cause endTime sample = p.endSteps j cause endTime sample) ∨
    ∃ action r, d.endAction = some action ∧
      r = Part.perform (fun q t => q.endJob t .linkedStop q.time 0) (p.endSteps j cause endTime sample) cause action ∧
      p.endJob j cause endTime sample = r.recordOutcome j p.reports.nextSeq (p.outcomeOf j d cause endTime sample) := by
  rw [Part.endJob_endWith]
  cases haction : d.endAction with
  | none => exact .inl ⟨rfl, Part.endWith_none ((Part.endActionOf_of_defn hd).trans haction)⟩
  | some action =>
    refine .inr ⟨action, _, rfl, rfl, ?_⟩
    simp only [Part.endWith, (Part.endActionOf_of_defn hd).trans haction, Part.outcomeOf, haction]

/-- The END report stands in the queue with the outcome, whatever the cascade has done since. -/
theorem Part.endJob_report (hd : p.jobs[j].defn = some d) :
    ∃ e ∈ (p.endJob j cause endTime sample).reports.queue, e.seq = p.reports.nextSeq ∧ e.job = some j ∧
      e.content = .ended cause (p.endValues j d.work cause endTime sample).final
        (p.endValues j d.work cause endTime sample).aux (p.outcomeOf j d cause endTime sample) := by
  have hcore : p.endCore j d cause endTime sample ∈ (p.endJob j cause endTime sample).cores := by
    obtain ⟨stopped, new, -, -, -, hcores⟩ := Part.cascade_cores 32 p j d cause endTime sample hd
    rw [Part.endJob, hcores]
    exact List.mem_append_right _ List.mem_cons_self
  obtain ⟨hnone, heq⟩ | ⟨action, r, haction, -, heq⟩ := Part.endJob_perform (cause := cause) (endTime := endTime)
    (sample := sample) hd
  · rw [heq, Part.endSteps_reports cause endTime sample hd]
    refine ⟨_, List.mem_append_right _ List.mem_cons_self, rfl, rfl, ?_⟩
    simp only [Part.outcomeOf, hnone]
  · rw [heq, Part.recordOutcome_cores] at hcore
    obtain ⟨e, he, hcore⟩ := List.mem_map.1 hcore
    simp only [ReportEntry.core, Part.endCore, Prod.mk.injEq] at hcore
    obtain ⟨hseq, hjob, hbare⟩ := hcore
    obtain ⟨o', hcontent⟩ := ReportContent.ended_of_bare hbare
    have hset := ReportEntry.setOutcome_ended (p.outcomeOf j d cause endTime sample) hcontent
    rw [hseq] at hset
    rw [heq]
    exact ⟨_, List.mem_map_of_mem he, (e.setOutcome_frame _ _).1.trans hseq, by rw [hset]; exact hjob, by rw [hset]⟩

theorem Part.endSteps_result (hd : p.jobs[j].defn = some d) :
    (p.endSteps j cause endTime sample).jobs[j].result =
      some { p.endResult j d cause endTime sample with outcome := .none } := by
  rw [Part.endSteps_jobs cause endTime sample hd]
  rfl

/-- The result stands in the record unless the ending has started the job again (R128, R130). -/
theorem Part.endJob_result (hd : p.jobs[j].defn = some d) :
    (p.endJob j cause endTime sample).jobs[j].result = some (p.endResult j d cause endTime sample) ∨
      (p.endJob j cause endTime sample).jobs[j].state = .running := by
  have hsteps := Part.endSteps_result (cause := cause) (endTime := endTime) (sample := sample) hd
  obtain ⟨hnone, heq⟩ | ⟨action, r, haction, hr, heq⟩ := Part.endJob_perform (cause := cause) (endTime := endTime)
    (sample := sample) hd
  · rw [heq, hsteps]
    left
    simp only [Part.endResult, Part.outcomeOf, hnone]
  · have hrecord : (p.endJob j cause endTime sample).jobs[j] = r.jobs[j].withOutcome (p.outcomeOf j d cause endTime sample) := by
      rw [heq]; exact Part.setJob_jobs_self ..
    have hjob : r.jobs[j] = (p.endSteps j cause endTime sample).jobs[j] ∨ r.jobs[j].state = .running := by
      obtain h | ⟨t, -, -, h⟩ | ⟨t, -, -, hlive, h⟩ := Part.perform_cases (fun q t => q.endJob t .linkedStop q.time 0)
        (p.endSteps j cause endTime sample) cause action
      · exact .inl (by rw [hr, h])
      · rw [hr, h]
        exact (Part.startLink_jobs t).imp id fun h => h.2
      · rw [hr, h]
        exact Part.cascade_jobs_other 32 _ t .linkedStop _ 0 (Part.live_of_endSteps hd hlive).1.symm
          (by rw [Part.endSteps_state hd]; rfl)
    rw [hrecord]
    refine hjob.imp (fun h => ?_) id
    rw [h, Job.withOutcome, hsteps]
    rfl

/-- An ending by a command at the present device time. -/
theorem Part.endsWith_endJob (hd : p.jobs[j].defn = some d) :
    p.EndsWith (p.endJob j cause p.time 0) j cause (p.endResult j d cause p.time 0) :=
  ⟨rfl, Part.endSteps_result hd, Part.endJob_report hd, Part.endJob_result hd⟩

theorem Work.ending_kind (w : Work) (st : JobState) (count left sample : Nat) :
    (w.ending st cause endTime count left sample).work.kind = w.kind := by cases w <;> rfl

theorem JobState.code_ended : JobState.code .ended = 6 := rfl

/-- The reply to a command that ends its job reports the job ENDED with the result (R172). -/
theorem Part.endedRecord_summary (hd : p.jobs[j].defn = some d) :
    (p.endedRecord j cause endTime sample).summary j false =
      endedSummary j d.work.kind p.jobs[j].run (p.endResult j d cause endTime sample) := by
  have hkind : (p.endValues j d.work cause endTime sample).work.kind = d.work.kind := Work.ending_kind ..
  have hrecord := Part.endedRecord_eq cause endTime sample hd
  dsimp only at hrecord
  rw [hrecord]
  simp only [Job.summary, Job.kindCode, beBytes_one, BitVec.ofNat_toNat, BitVec.setWidth_eq]
  rw [show (d.work.ending p.jobs[j].state cause endTime (p.countOf j) (p.leftAt j endTime) sample).work.kind = d.work.kind
    from Work.ending_kind ..]
  rfl

/-- The verdict of a command that ends its job. -/
theorem Part.takenEnding_eq (hd : p.jobs[j].defn = some d) : p.takenEnding j cause =
    .taken (p.endJob j cause p.time 0) (endedSummary j d.work.kind p.jobs[j].run (p.endResult j d cause p.time 0)) :=
  congrArg (Verdict.taken _) (Part.endedRecord_summary hd)

end

/-! ### STOP (R12–R14) -/

section
variable {p : Part} {j : JobId} {d : Definition}

theorem Work.finishes_of_kind {w : Work} (h : w.kind = .tick ∨ w.kind = .wave ∨
    ∃ e g, w = .echo e g ∧ (g.pendingList ≠ [] ∨ g.pulse ≠ none)) : w.finishes = true := by
  cases w with
  | echo e g =>
    rcases h with h | h | ⟨e', g', heq, h⟩
    · cases h
    · cases h
    · obtain ⟨rfl, rfl⟩ := Work.echo.inj heq
      cases hl : g.pendingList <;> cases hp : g.pulse <;> simp_all [Work.finishes]
  | tick k g => rfl
  | wave v g => rfl
  | count c g => rcases h with h | h | ⟨e, g', h, -⟩ <;> cases h
  | measure m g => rcases h with h | h | ⟨e, g', h, -⟩ <;> cases h
  | delay k g => rcases h with h | h | ⟨e, g', h, -⟩ <;> cases h

theorem Work.not_finishes_of_kind {w : Work} (h : w.kind = .count ∨ w.kind = .measure ∨ w.kind = .delay ∨
    ∃ e g, w = .echo e g ∧ g.pendingList = [] ∧ g.pulse = none) : w.finishes = false := by
  rcases h with h | h | h | ⟨e, g, rfl, hlist, hpulse⟩
  · cases w <;> first | rfl | cases h
  · cases w <;> first | rfl | cases h
  · cases w <;> first | rfl | cases h
  · simp [Work.finishes, hlist, hpulse]

/-- STOP ends a job unless it is RUNNING, finish is set and its kind has a boundary ahead (R12–R14). -/
theorem Part.stopLive_ends {finish : Bool} (hd : p.jobs[j].defn = some d)
    (h : p.jobs[j].state = .running → (finish && d.work.finishes) = false) :
    p.stopLive j finish = p.takenEnding j .hostStop := by
  have hw := Part.workOf_of_defn hd
  unfold Part.stopLive
  cases hstate : p.jobs[j].state with
  | running => simp only [hw, h hstate, Bool.false_eq_true, if_false]
  | armed => rfl
  | held => rfl
  | stopping => rfl
  | free => rfl
  | defined => rfl
  | ended => rfl

theorem Part.stopLive_finishes (hd : p.jobs[j].defn = some d) (hstate : p.jobs[j].state = .running)
    (h : d.work.finishes = true) : p.stopLive j true = (p.enterStopping j).takenSummary j false := by
  have hw := Part.workOf_of_defn hd
  simp only [Part.stopLive, hstate, hw, h, Bool.and_self, if_true]

end

/-- Settles O25, by the checks of STOP in order and the two things it can do to a live job. -/
theorem stopEndsOrLetsFinish : Obligations.StopEndsOrLetsFinish := by
  unfold Obligations.StopEndsOrLetsFinish
  intro s f j d finish htakes hkind hpayload hd hlive
  have hd' : s.dropFrame.jobs[j].defn = some d := hd
  have hread := actStop_job (p := s.dropFrame) (finish := finish) (jobNumber_byte j)
  rw [if_neg (by simpa using hlive)] at hread
  refine ⟨fun hends => ?ends, fun hfinish hrunning hboundary => ?finishes, fun hfinish hstopping => ?again, fun hbad => ?bad⟩
  case ends =>
    refine ⟨s.dropFrame.endJob j .hostStop s.time 0, _, Part.endsWith_endJob hd', stopRow.answers htakes hkind hpayload ?_⟩
    refine Eq.trans ?_ (Part.takenEnding_eq hd')
    have hends' : finish.toNat ≤ 1 ∧ ¬ (s.dropFrame.jobs[j].state = .stopping ∧ finish.toNat = 1) ∧
        (s.dropFrame.jobs[j].state = .running → (decide (finish.toNat = 1) && d.work.finishes) = false) := by
      rcases hends with rfl | ⟨rfl, hstate⟩
      · exact ⟨by decide, fun h => absurd h.2 (by decide), fun _ => rfl⟩
      · refine ⟨by decide, fun h => ?_, fun h => ?_⟩
        · have hstopping : s.jobs[j].state = .stopping := h.1
          rcases hstate with hs | hs | ⟨hs, -⟩ <;> rw [hs] at hstopping <;> cases hstopping
        · have hrunning : s.jobs[j].state = .running := h
          rcases hstate with hs | hs | ⟨-, hs⟩
          · rw [hs] at hrunning; cases hrunning
          · rw [hs] at hrunning; cases hrunning
          · rw [Work.not_finishes_of_kind hs, Bool.and_false]
    obtain ⟨hcode, hfirst, hkinds⟩ := hends'
    rw [hread, if_neg hfirst, if_neg (Nat.not_lt.2 hcode)]
    exact Part.stopLive_ends hd' hkinds
  case finishes =>
    subst hfinish
    refine ⟨_, rfl, stopRow.answers htakes hkind hpayload ?_⟩
    rw [hread, if_neg (fun h => by rw [show s.dropFrame.jobs[j].state = .running from hrunning] at h; cases h.1),
      if_neg (by decide)]
    exact Part.stopLive_finishes hd' hrunning (Work.finishes_of_kind hboundary)
  case again =>
    subst hfinish
    refine stopRow.denies (status := .wrongState) (detail := 0) htakes hkind hpayload ?_
    rw [hread, if_pos ⟨hstopping, rfl⟩]
  case bad =>
    refine stopRow.denies (status := .badParam) (detail := 2) htakes hkind hpayload ?_
    rw [hread, if_neg (fun h => absurd h.2 (Nat.ne_of_gt hbad)), if_pos hbad]

end Sys2Proof.Machine
end

section
/-! SUPPORT. R27 and R124 to R128: the steps of an ending, its values by kind, its links and its cascade. -/

namespace Sys2Proof.Machine

open Sys2Proof

/-! ### Steps 1 to 5 (R27) -/

section
variable {p : Part} {j : JobId} {d : Definition} {cause : EndCause} {endTime : Time} {sample : Nat}

theorem Part.endJob_of_noAction (hd : p.jobs[j].defn = some d) (h : d.endAction = none) :
    p.endJob j cause endTime sample = p.endSteps j cause endTime sample :=
  Part.endWith_none ((Part.endActionOf_of_defn hd).trans h)

theorem Part.endSteps_line {u : OutputUse} (hd : p.jobs[j].defn = some d) (hu : d.output = some u)
    (ho : p.outputs[u.line].owner = some j) :
    (p.endSteps j cause endTime sample).outputs[u.line] = { level := u.idle, owner := none } := by
  rw [Part.endSteps_outputs cause endTime sample hd, Part.ownedOutput_of_output hd hu ho]
  exact if_pos rfl

theorem Part.endSteps_lines {o : OutId} (hd : p.jobs[j].defn = some d) (ho : ¬ p.Drives j d o) :
    (p.endSteps j cause endTime sample).outputs[o] = p.outputs[o] := by
  rw [Part.endSteps_outputs cause endTime sample hd]
  cases howned : p.ownedOutput j with
  | none => rfl
  | some u =>
    obtain ⟨d', hd', hu, hk⟩ := Part.ownedOutput_eq_some.1 howned
    obtain rfl : d = d' := Option.some.inj (hd.symm.trans hd')
    exact if_neg fun (h : o = u.line) => ho ⟨u, hu, h.symm, h ▸ hk⟩

/-- The remaining time that an ending records of a DELAY job (R89). -/
theorem Part.endValues_delay {k : DelayParams} {g : DelayProgress} : (p.endValues j (.delay k g) cause endTime sample) =
    { work := .delay k { remaining := if cause = .expired then 0 else if p.jobs[j].state = .armed then k.duration
        else if p.jobs[j].state = .running then p.leftAt j endTime else g.remaining }
      final := k.duration - if cause = .expired then 0 else if p.jobs[j].state = .armed then k.duration
        else if p.jobs[j].state = .running then p.leftAt j endTime else g.remaining
      aux := if cause = .expired then 0 else if p.jobs[j].state = .armed then k.duration
        else if p.jobs[j].state = .running then p.leftAt j endTime else g.remaining } := rfl

end

/-- Settles O32, by the tables that the steps write and the progress they leave, by kind. -/
theorem endingRunsItsSteps : Obligations.EndingRunsItsSteps := by
  unfold Obligations.EndingRunsItsSteps
  intro p j d cause endTime sample hd
  refine ⟨_, (p.endValues j d.work cause endTime sample).work, (p.endValues j d.work cause endTime sample).final,
    (p.endValues j d.work cause endTime sample).aux, rfl, Part.endJob_of_noAction hd, fun c g hw => by rw [hw]; rfl,
    fun m g hw => by rw [hw]; rfl, fun k g hw => ?delay, fun k g hw => by rw [hw]; rfl, fun v g hw => by rw [hw]; rfl,
    fun x g hw => by rw [hw]; rfl, Part.endSteps_jobs cause endTime sample hd,
    fun k hk => Part.endSteps_jobs_ne cause endTime sample hd hk, Part.endSteps_schedule cause endTime sample hd,
    Part.endSteps_cells cause endTime sample hd, fun u hu ho => Part.endSteps_line hd hu ho,
    fun o ho => Part.endSteps_lines hd fun ⟨u, hu, hl, hk⟩ => ho u hu hl hk, Part.endSteps_deliveries cause endTime sample hd,
    Part.endSteps_reports cause endTime sample hd, ?frame⟩
  case delay =>
    rw [hw, Part.endValues_delay]
    refine ⟨_, rfl, fun hc => if_pos hc, fun hc => ⟨fun hs => ?_, fun hs hr => ?_, fun e hr he => ?_⟩⟩
    · rw [if_neg hc, if_pos hs]
    · rw [if_neg hc, if_neg hs, if_neg hr]
    · rw [if_neg hc, if_neg (by rw [hr]; decide), if_pos hr, Part.leftAt_of_entry endTime he]
  case frame => exact (Part.DeviceEq.endSteps cause endTime sample).restore

/-! ### Final and auxiliary values (R57, R77, R89, R94, R97, R107, R119) -/

/-- Settles O33, by the values of each kind. -/
theorem endingValuesByKind : Obligations.EndingValuesByKind := by
  unfold Obligations.EndingValuesByKind
  intro p j d cause endTime sample hd
  refine ⟨{ p.endResult j d cause endTime sample with outcome := .none }, Part.endSteps_result hd, rfl, rfl, ?_⟩
  have hleft (e : DeadlineEntry) := Part.leftAt_of_entry (e := e) (p := p) (j := j) endTime
  simp only [Part.endResult, Part.endValues]
  generalize p.jobs[j].state = st
  generalize p.countOf j = count
  generalize p.leftAt j endTime = left at hleft
  refine ⟨fun harmed => ?armed, fun hstate => ?live⟩
  case armed =>
    refine ⟨fun c g hw => ?_, fun m g hw => ?_, fun k g hw hc => ?_, fun k g hw => ?_, fun v g hw => ?_, fun x g hw => ?_⟩
    · simp [hw, Work.ending, harmed]
    · simp [hw, Work.ending, harmed]
    · simp [hw, Work.ending, harmed, hc]
    · simp [hw, Work.ending, harmed]
    · simp [hw, Work.ending, harmed, JobState.working]
    · simp [hw, Work.ending, harmed]
  case live =>
    have harmed : st ≠ .armed := by
      rcases hstate with h | h | h <;> rw [h] <;> decide
    refine ⟨fun c g hw => ?_, fun m g hw => ?_, fun k g hw => ⟨fun hc => ?_, fun hc => ⟨?_, fun hs => ?_, fun e hs he => ?_⟩⟩,
      fun k g hw => ?_, fun v g hw => ⟨?_, fun hidle => ?_, fun t hheld ht => ?_⟩, fun x g hw => ?_⟩
    · simp [hw, Work.ending, harmed]
    · refine ⟨?_, fun hc => ?_, fun hc => ?_, fun hc => ?_, fun hc => ⟨fun x hx => ?_, fun hx => ?_⟩⟩
      · simp [hw, Work.ending, harmed]
      · rcases hc with rfl | rfl <;> simp [hw, Work.ending, harmed]
      · simp [hw, Work.ending, harmed, hc]
      · simp [hw, Work.ending, harmed, hc]
      · rcases hc with rfl | rfl | rfl <;> simp [hw, Work.ending, harmed, hx]
      · rcases hc with rfl | rfl | rfl <;> simp [hw, Work.ending, harmed, hx]
    · simp [hw, Work.ending, hc]
    · simp [hw, Work.ending]
    · simp [hw, Work.ending, hc, hs]
    · simp only [hw, Work.ending]
      rw [if_neg hc, if_neg harmed, if_pos hs, hleft e he]
    · simp [hw, Work.ending, harmed]
    · simp [hw, Work.ending, harmed]
    · rcases hidle with h | h
      · simp [hw, Work.ending, h, JobState.working]
      · simp [hw, Work.ending, h]
    · have hworks : st.working = true := by
        rcases hstate with h | h | h
        · rw [h]; rfl
        · exact absurd h hheld
        · rw [h]; rfl
      simp only [hw, Work.ending, hworks, ht, if_true]
    · simp [hw, Work.ending, harmed, satAdd32, max32]

/-! ### Links (R124 to R127) -/

section
variable {p : Part} {j : JobId} {d : Definition} {cause : EndCause} {endTime : Time} {sample : Nat}

theorem Part.endJob_linkLost {action : EndAction} (hd : p.jobs[j].defn = some d) (h : d.endAction = some action) :
    p.endJob j .linkLost endTime sample =
      (p.endSteps j .linkLost endTime sample).recordOutcome j p.reports.nextSeq .suppressed :=
  Part.endWith_linkLost ((Part.endActionOf_of_defn hd).trans h)

theorem Part.endJob_start {t : JobId} (hd : p.jobs[j].defn = some d) (h : d.endAction = some (.start t))
    (hc : cause ≠ .linkLost) {q : Part} {o : LinkOutcome} (hlink : (p.endSteps j cause endTime sample).startLink t = (q, o)) :
    p.endJob j cause endTime sample = q.recordOutcome j p.reports.nextSeq o := by
  refine (Part.endWith_start ((Part.endActionOf_of_defn hd).trans h) hc).trans ?_
  rw [hlink]

theorem Part.endJob_stop_idle {t : JobId} (hd : p.jobs[j].defn = some d) (h : d.endAction = some (.stop t))
    (hc : cause ≠ .linkLost) (hlive : (p.endSteps j cause endTime sample).jobs[t].state.live = false) :
    p.endJob j cause endTime sample = (p.endSteps j cause endTime sample).recordOutcome j p.reports.nextSeq
      (stopOutcome (p.endSteps j cause endTime sample).jobs[t].state) :=
  (Part.endWith_stop ((Part.endActionOf_of_defn hd).trans h) hc).trans (if_neg (Bool.eq_false_iff.1 hlive))

theorem Part.endJob_stop_live {t : JobId} (hd : p.jobs[j].defn = some d) (h : d.endAction = some (.stop t))
    (hc : cause ≠ .linkLost) (hlive : (p.endSteps j cause endTime sample).jobs[t].state.live = true) :
    p.endJob j cause endTime sample =
      ((p.endSteps j cause endTime sample).endJob t .linkedStop (p.endSteps j cause endTime sample).time 0).recordOutcome j
        p.reports.nextSeq .done := by
  rw [Part.endJob_endWith]
  exact (Part.endWith_stop ((Part.endActionOf_of_defn hd).trans h) hc).trans (if_pos hlive)

end

section
variable {q : Part} {t : JobId}

theorem Part.startLink_armed (h : q.jobs[t].state = .armed) : q.startLink t = (q.enterRunning t q.time, .done) := by
  simp only [Part.startLink, h]

theorem Part.startLink_busy (h : q.jobs[t].state = .running ∨ q.jobs[t].state = .held ∨ q.jobs[t].state = .stopping) :
    q.startLink t = (q, .targetBusy) := by
  rcases h with h | h | h <;> simp only [Part.startLink, h]

theorem Part.startLink_free (h : q.jobs[t].state = .free) : q.startLink t = (q, .targetFree) := by
  simp only [Part.startLink, h]

/-- A full start by a START link, by what the claims of its target come to (R125). -/
theorem Part.startLink_claim {dt : Definition} (h : q.jobs[t].state = .defined ∨ q.jobs[t].state = .ended)
    (hdt : q.jobs[t].defn = some dt) {r : Part} {o : LinkOutcome} (hclaim : (match q.claim t dt with
      | .lineBusy _ => (q, LinkOutcome.lineBusy)
      | .noCells => (q, .noCells)
      | .noRoom => (q, .noRoom)
      | .granted cs => ((q.grant t dt cs).enterRunning t q.time, .done)) = (r, o)) : q.startLink t = (r, o) := by
  rw [← hclaim]
  rcases h with h | h <;> simp only [Part.startLink, h, hdt] <;> rfl

end

theorem Job.withOutcome_result {b : Job} {x : Result} (o : LinkOutcome) (h : b.result = some x) :
    b.withOutcome o = { b with result := some { x with outcome := o } } := by
  rw [Job.withOutcome, h]
  rfl

theorem Job.withOutcome_none {b : Job} (o : LinkOutcome) (h : b.result = none) : b.withOutcome o = b := by
  cases b
  simp_all [Job.withOutcome]

theorem ReportEntry.setOutcome_ne {e : ReportEntry} {seq : BitVec 16} (o : LinkOutcome) (h : e.seq ≠ seq) :
    e.setOutcome seq o = e := if_neg h

/-- Settles O34: the links by the state of the target, and the outcome by what it is written into. -/
theorem linksActOnTargets : Obligations.LinksActOnTargets := by
  unfold Obligations.LinksActOnTargets
  refine ⟨fun p j d cause endTime sample q hd hq => ⟨fun haction hcause => ?suppressed, fun t haction hcause =>
      ⟨fun harmed => ?armed, fun hbusy => ?busy, fun hfree => ?free, fun dt hidle hdt => ?claims⟩, fun t haction hcause =>
      ⟨fun hidle => ?stopIdle, fun hfree => ?stopFree⟩⟩,
    fun q j seq o r hr => ⟨fun x hx => ?result, fun hnone => ?noResult, fun k hk => ?others,
      fun pre post e cause final aux o' hqueue hothers hseq hcontent => ?report, ?frame⟩⟩
  case suppressed =>
    obtain ⟨action, haction⟩ := Option.ne_none_iff_exists'.1 haction
    rw [hq, hcause]
    exact Part.endJob_linkLost hd haction
  case armed => rw [hq] at harmed ⊢; exact Part.endJob_start hd haction hcause (Part.startLink_armed harmed)
  case busy => rw [hq] at hbusy ⊢; exact Part.endJob_start hd haction hcause (Part.startLink_busy hbusy)
  case free => rw [hq] at hfree ⊢; exact Part.endJob_start hd haction hcause (Part.startLink_free hfree)
  case claims =>
    have hstart {r : Part} {o : LinkOutcome} (hclaim : _) :=
      Part.endJob_start (sample := sample) hd haction hcause (Part.startLink_claim (r := r) (o := o) (hq ▸ hidle) (hq ▸ hdt) hclaim)
    rw [← hq] at hstart
    refine ⟨fun u k hu hk hne => hstart ?_, fun hline => ⟨fun hfew => hstart ?_, fun hcells hfull => hstart ?_,
      fun hcells hroom => hstart ?_⟩⟩
    · rw [Part.claim_lineBusy hu hk hne]
    · rw [Part.claim_of_lineFree hline, if_pos hfew]
    · rw [Part.claim_of_lineFree hline, if_neg (Nat.not_lt.2 hcells), if_neg (mt Part.hasRoom_iff.1 (Nat.not_lt.2 hfull))]
    · rw [Part.claim_of_lineFree hline, if_neg (Nat.not_lt.2 hcells), if_pos (Part.hasRoom_iff.2 hroom)]
  case stopIdle =>
    rw [hq] at hidle ⊢
    rw [Part.endJob_stop_idle hd haction hcause (by rcases hidle with h | h <;> rw [h] <;> rfl)]
    rcases hidle with h | h <;> rw [h] <;> rfl
  case stopFree =>
    rw [hq] at hfree ⊢
    rw [Part.endJob_stop_idle hd haction hcause (by rw [hfree]; rfl), hfree]
    rfl
  case result => rw [hr]; exact (Part.setJob_jobs_self ..).trans (Job.withOutcome_result o hx)
  case noResult => rw [hr]; exact (Part.setJob_jobs_self ..).trans (Job.withOutcome_none o hnone)
  case others => rw [hr]; exact Part.setJob_jobs_ne _ _ hk
  case report =>
    have hkeep (l : List ReportEntry) (h : ∀ x ∈ l, x.seq ≠ seq) : l.map (fun x => x.setOutcome seq o) = l :=
      (List.map_congr_left fun x hx => ReportEntry.setOutcome_ne o (h x hx)).trans (List.map_id' l)
    have hreports : r.reports = { q.reports with queue := q.reports.queue.map (fun x => x.setOutcome seq o) } := by rw [hr]; rfl
    rw [hreports, hqueue, List.map_append, List.map_cons, hkeep pre fun x hx => hothers x (List.mem_append_left _ hx),
      hkeep post fun x hx => hothers x (List.mem_append_right _ hx), ← hseq, ReportEntry.setOutcome_ended o hcontent]
  case frame => rw [hr]; rfl

/-! ### The cascade (R128) -/

theorem Part.cores_jobs (p : Part) : p.cores.map (fun c => c.2.1) = p.reports.queue.map (fun e => e.job) := by
  rw [Part.cores, List.map_map]
  rfl

/-- Settles O35: a STOP link by the ending of its target, and the reports by the cores that a cascade appends. -/
theorem stopLinksCascade : Obligations.StopLinksCascade := by
  unfold Obligations.StopLinksCascade
  intro p j d cause endTime sample hd
  refine ⟨fun t q haction hcause hq hlive => ?stop, ?reports⟩
  case stop =>
    subst hq
    exact Part.endJob_stop_live hd haction hcause hlive
  case reports =>
    obtain ⟨stopped, cores, hnodup, -, ⟨hjobs, hcontents⟩, hcores⟩ := Part.cascade_cores 32 p j d cause endTime sample hd
    obtain ⟨old, new, hqueue, hold, hnew⟩ := List.map_eq_append_iff.1 hcores
    obtain ⟨e, rest, hcons, he, hrest⟩ := List.map_eq_cons_iff.1 hnew
    have hjobsOf (l : List ReportEntry) : (l.map ReportEntry.core).map (fun c => c.2.1) = l.map (fun x => x.job) := by
      rw [List.map_map]; rfl
    refine ⟨j :: stopped, old, new, rfl, hnodup, ?_, hqueue, ?_, ?_, fun x hx => ?_, fun x hx => ?_⟩
    · simpa using hnodup.length_le_card
    · rw [← hjobsOf, hold, Part.cores_jobs]
    · rw [← hjobsOf, hnew, List.map_cons, hjobs]
      rfl
    · rw [hcons] at hx
      obtain rfl : e = x := Option.some.inj hx
      obtain ⟨o, ho⟩ := ReportContent.ended_of_bare (congrArg (fun c => c.2.2) he)
      exact ⟨_, _, o, ho⟩
    · rw [hcons] at hx
      obtain ⟨final, aux, hbare⟩ := hcontents x.core (hrest ▸ List.mem_map_of_mem hx)
      obtain ⟨o, ho⟩ := ReportContent.ended_of_bare hbare
      exact ⟨final, aux, o, ho⟩

end Sys2Proof.Machine
end

section
/-! SUPPORT. R17, R18, R55, R56, R75, R76, R96, R104, R116 and R171: ALTER by kind. -/

namespace Sys2Proof.Machine

open Sys2Proof

/-! ### The fields of an ALTER (R171) -/

/-- The values of an ALTER stand behind its job number and its kind code. -/
theorem field_values (n code : Byte) (values : List Byte) (offset width : Nat) :
    field ([n, code] ++ values) (offset + 2) width = field values offset width := rfl

theorem JobKind.code_of_ofCode {n : Nat} {k : JobKind} (h : JobKind.ofCode n = some k) : n = k.code := by
  unfold JobKind.ofCode at h
  split at h
  case h_7 => cases h
  all_goals
    injection h with h
    subst h
    rfl

theorem JobKind.ofCode_code (k : JobKind) : JobKind.ofCode k.code = some k := by cases k <;> rfl

theorem JobState.alterable_eq_true {st : JobState} (h : st = .armed ∨ st = .running ∨ st = .held) : st.alterable = true := by
  rcases h with rfl | rfl | rfl <;> rfl

section
variable {p : Part} {n : Byte} {j : JobId} {w : Work} {code : Byte} {values : List Byte} {checks : List (Nat × Bool)}

/-- An ALTER that reaches a job of its kind goes by the checks of its values. -/
theorem actAlter_checks (hlength : (code, values.length) ∈ alterLengths) (hn : n.toNat = j.val + 1)
    (hstate : p.jobs[j].state.alterable = true) (hw : p.workOf j = some w) (hkind : w.kind ≠ .delay)
    (hcode : code.toNat = w.kind.code) (hchecks : alterValueChecks ([n, code] ++ values) w = checks) :
    (∀ index, firstFailing checks = some index → actAlter p ([n, code] ++ values) = .deny .badParam index) ∧
    (firstFailing checks = none → actAlter p ([n, code] ++ values) = p.alterChecked j w ([n, code] ++ values)) := by
  have hok : alterLengthOk ([n, code] ++ values) = true := by
    have hrow := alterLengthOk_of_row (n := n) (values := values) hlength
    simpa using hrow
  have hof : JobKind.ofCode code.toNat = some w.kind := hcode ▸ JobKind.ofCode_code w.kind
  subst hchecks
  exact ⟨fun index h => actAlter_badParam hok hn hstate hw hkind hof h, actAlter_checked hok hn hstate hw hkind hof⟩

end

section
variable {p : Part} {n : Byte} {j : JobId} (hn : n.toNat = j.val + 1) (hstate : p.jobs[j].state.alterable = true)
include hn hstate

/-- ALTER of a COUNT job (R55). -/
theorem actAlter_count {c : CountParams} {g : CountProgress} {limit step : Nat} (hw : p.workOf j = some (.count c g))
    (hlimit : limit ≤ 4294967295) (hstep : step ≤ 65535) :
    actAlter p ([n, 0x01#8] ++ (beBytes 4 limit ++ beBytes 2 step)) =
      if c.width.largest < limit then .deny .badParam 3 else p.alterCount j c g limit step := by
  have h1 : field ([n, 0x01#8] ++ (beBytes 4 limit ++ beBytes 2 step)) 2 4 = limit :=
    (field_values ..).trans (field_beBytes (by omega) _)
  have h2 : field ([n, 0x01#8] ++ (beBytes 4 limit ++ beBytes 2 step)) 6 2 = step :=
    (field_values _ _ _ 4 2).trans ((field_skip _ _ (le_refl 4) 2).trans (field_beBytes_last (by omega)))
  obtain ⟨hbad, hgood⟩ := actAlter_checks (code := 0x01#8) (checks := [(3, decide (c.width.largest < limit)), (4, decide (65535 < step))])
    (values := beBytes 4 limit ++ beBytes 2 step) (by simp [alterLengths]) hn hstate hw (fun h => nomatch h) rfl
    (by rw [alterValueChecks, h1, h2])
  split
  case isTrue h => exact hbad 3 (by simp [firstFailing, h])
  case isFalse h =>
    rw [hgood (by simp [firstFailing, h, hstep]), Part.alterChecked, h1, h2]

/-- ALTER of a MEASURE job (R75). -/
theorem actAlter_measure {m : MeasureParams} {g : MeasureProgress} {low high report : Nat}
    (hw : p.workOf j = some (.measure m g)) (hlow : low ≤ 4294967295) (hhigh : high ≤ 4294967295) (hreport : report ≤ 255) :
    actAlter p ([n, 0x02#8] ++ (beBytes 4 low ++ (beBytes 4 high ++ beBytes 1 report))) =
      if (low ≠ 0 ∧ high ≠ 0 ∧ high < low) ∨ (m.stall = true ∧ high = 0) then .deny .badParam 4
      else p.alterMeasure j m g low high report := by
  have h1 : field ([n, 0x02#8] ++ (beBytes 4 low ++ (beBytes 4 high ++ beBytes 1 report))) 2 4 = low :=
    (field_values ..).trans (field_beBytes (by omega) _)
  have h2 : field ([n, 0x02#8] ++ (beBytes 4 low ++ (beBytes 4 high ++ beBytes 1 report))) 6 4 = high :=
    (field_values _ _ _ 4 4).trans ((field_skip _ _ (le_refl 4) 4).trans (field_beBytes (by omega) _))
  have h3 : field ([n, 0x02#8] ++ (beBytes 4 low ++ (beBytes 4 high ++ beBytes 1 report))) 10 1 = report :=
    (field_values _ _ _ 8 1).trans ((field_skip _ _ (by omega : 4 ≤ 8) 1).trans
      ((field_skip _ _ (le_refl 4) 1).trans (field_beBytes_last (by omega))))
  obtain ⟨hbad, hgood⟩ := actAlter_checks (code := 0x02#8) (values := beBytes 4 low ++ (beBytes 4 high ++ beBytes 1 report))
    (checks := [(3, decide (4294967295 < low)), (4, decide (4294967295 < high) ||
      (decide (low ≠ 0) && decide (high ≠ 0) && decide (high < low)) || (m.stall && decide (high = 0))),
      (5, decide (255 < report))]) (by simp [alterLengths]) hn hstate hw (fun h => nomatch h) rfl
    (by rw [alterValueChecks, h1, h2, h3])
  have hlow' : decide (4294967295 < low) = false := decide_eq_false (by omega)
  have hhigh' : decide (4294967295 < high) = false := decide_eq_false (by omega)
  have hreport' : decide (255 < report) = false := decide_eq_false (by omega)
  have hcheck : (decide (4294967295 < high) || (decide (low ≠ 0) && decide (high ≠ 0) && decide (high < low)) ||
      (m.stall && decide (high = 0))) = decide ((low ≠ 0 ∧ high ≠ 0 ∧ high < low) ∨ (m.stall = true ∧ high = 0)) := by
    rw [hhigh', Bool.false_or, Bool.eq_iff_iff]
    simp only [Bool.or_eq_true, Bool.and_eq_true, decide_eq_true_eq, and_assoc]
  rw [hcheck, hlow', hreport'] at hbad hgood
  split
  case isTrue h => exact hbad 4 (by rw [decide_eq_true h]; rfl)
  case isFalse h => rw [hgood (by rw [decide_eq_false h]; rfl), Part.alterChecked, h1, h2, h3]

/-- ALTER of a TICK job (R96). -/
theorem actAlter_tick {k : TickParams} {g : TickProgress} {period : Nat} (hw : p.workOf j = some (.tick k g))
    (hperiod : period ≤ 4294967295) : actAlter p ([n, 0x04#8] ++ beBytes 4 period) =
      if period < 10 then .deny .badParam 3 else (p.alterTick j k g period).takenSummary j (p.replacesStaged j) := by
  have h1 : field ([n, 0x04#8] ++ beBytes 4 period) 2 4 = period := (field_values ..).trans (field_beBytes_last (by omega))
  obtain ⟨hbad, hgood⟩ := actAlter_checks (code := 0x04#8) (values := beBytes 4 period)
    (checks := [(3, decide (period < 10) || decide (4294967295 < period))]) (by simp [alterLengths]) hn hstate hw
    (fun h => nomatch h) rfl (by rw [alterValueChecks, h1])
  split
  case isTrue h => exact hbad 3 (by simp [firstFailing, h])
  case isFalse h => rw [hgood (by simp [firstFailing, h, hperiod]), Part.alterChecked, h1]

/-- ALTER of a WAVE job (R104). -/
theorem actAlter_wave {v : WaveParams} {g : WaveProgress} {period width : Nat} (hw : p.workOf j = some (.wave v g))
    (hperiod : period ≤ 16777215) (hwidth : width ≤ 16777215) :
    actAlter p ([n, 0x05#8] ++ (beBytes 3 period ++ beBytes 3 width)) =
      if period < 10 then .deny .badParam 3
      else if width = 0 ∨ period ≤ width then .deny .badParam 4
      else (p.alterWave j v g period width).takenSummary j (p.replacesStaged j) := by
  have h1 : field ([n, 0x05#8] ++ (beBytes 3 period ++ beBytes 3 width)) 2 3 = period :=
    (field_values ..).trans (field_beBytes (by omega) _)
  have h2 : field ([n, 0x05#8] ++ (beBytes 3 period ++ beBytes 3 width)) 5 3 = width :=
    (field_values _ _ _ 3 3).trans ((field_skip _ _ (le_refl 3) 3).trans (field_beBytes_last (by omega)))
  obtain ⟨hbad, hgood⟩ := actAlter_checks (code := 0x05#8) (values := beBytes 3 period ++ beBytes 3 width)
    (checks := [(3, decide (period < 10) || decide (16777215 < period)),
      (4, decide (width = 0) || decide (period ≤ width))]) (by simp [alterLengths]) hn hstate hw (fun h => nomatch h) rfl
    (by rw [alterValueChecks, h1, h2])
  split
  case isTrue h => exact hbad 3 (by simp [firstFailing, h])
  case isFalse h =>
    have h3 : (decide (period < 10) || decide (16777215 < period)) = false := by simp [h, hperiod]
    rw [h3, ← Bool.decide_or] at hbad hgood
    split
    case isTrue hw => exact hbad 4 (by rw [decide_eq_true hw]; rfl)
    case isFalse hw => rw [hgood (by rw [decide_eq_false hw]; rfl), Part.alterChecked, h1, h2]

/-- ALTER of an ECHO job (R116). -/
theorem actAlter_echo {x : EchoParams} {g : EchoProgress} {delay width : Nat} (hw : p.workOf j = some (.echo x g))
    (hdelay : delay ≤ 16777215) (hwidth : width ≤ 65535) :
    actAlter p ([n, 0x06#8] ++ (beBytes 3 delay ++ beBytes 2 width)) =
      if width = 0 then .deny .badParam 4
      else (p.setWork j (.echo { x with delay := delay, width := width } g)).takenSummary j false := by
  have h1 : field ([n, 0x06#8] ++ (beBytes 3 delay ++ beBytes 2 width)) 2 3 = delay :=
    (field_values ..).trans (field_beBytes (by omega) _)
  have h2 : field ([n, 0x06#8] ++ (beBytes 3 delay ++ beBytes 2 width)) 5 2 = width :=
    (field_values _ _ _ 3 2).trans ((field_skip _ _ (le_refl 3) 2).trans (field_beBytes_last (by omega)))
  obtain ⟨hbad, hgood⟩ := actAlter_checks (code := 0x06#8) (values := beBytes 3 delay ++ beBytes 2 width)
    (checks := [(3, decide (16777215 < delay)), (4, decide (width = 0) || decide (65535 < width))]) (by simp [alterLengths]) hn
    hstate hw (fun h => nomatch h) rfl (by rw [alterValueChecks, h1, h2])
  have h3 : decide (16777215 < delay) = false := decide_eq_false (by omega)
  have h4 : decide (65535 < width) = false := decide_eq_false (by omega)
  rw [h3, h4, Bool.or_false] at hbad hgood
  split
  case isTrue h => exact hbad 4 (by rw [decide_eq_true h]; rfl)
  case isFalse h => rw [hgood (by rw [decide_eq_false h]; rfl), Part.alterChecked, h1, h2]

end

/-! ### What follows an ALTER (R56, R76) -/

section
variable {p : Part} {j : JobId}

theorem MeasureProgress.stallReference_eq (g : MeasureProgress) :
    g.stallReference = (g.interval.map (fun i => i.openedAt)).or g.stallRef := by
  unfold MeasureProgress.stallReference
  cases g.interval <;> rfl

theorem Part.holdsStall_eq_false (h : ∀ e ∈ p.schedule, e.job = j → e.purpose ≠ .stall) : p.holdsStall j = false := by
  unfold Part.holdsStall
  split
  · rfl
  · rename_i e he
    have hjob : e.job = j := by simpa using List.find?_some he
    exact decide_eq_false (h e (List.mem_of_find?_eq_some he) hjob)

theorem Part.holdsStall_of_entry {e : DeadlineEntry} (he : p.schedule.find? (fun x => decide (x.job = j)) = some e)
    (hpurpose : e.purpose = .stall) : p.holdsStall j = true := by
  simp only [Part.holdsStall, Part.entryOf, he, hpurpose, decide_true]

theorem Part.recomputeStall_none (g : MeasureProgress) (highLimit : Nat) (h : p.holdsStall j = false) :
    p.recomputeStall j g highLimit = p.takenSummary j false := by
  simp only [Part.recomputeStall, h, Bool.false_eq_true, if_false]

theorem Part.recomputeStall_of_reference {g : MeasureProgress} {ref : Time} (highLimit : Nat) (h : p.holdsStall j = true)
    (href : g.stallReference = some ref) : p.recomputeStall j g highLimit =
      if reached p.time (stallDue ref highLimit) then p.takenEnding j .stall
      else (p.place j .stall (stallDue ref highLimit)).takenSummary j false := by
  simp only [Part.recomputeStall, h, if_true, href]

/-- The verdict of an ALTER that ends its job, with the work already altered. -/
theorem Part.takenEnding_setWork {d : Definition} {w : Work} {cause : EndCause} (hd : p.jobs[j].defn = some d) :
    ∃ (t : Part) (r : Result), (p.setWork j w).EndsWith t j cause r ∧
      (p.setWork j w).takenEnding j cause = .taken t (endedSummary j w.kind p.jobs[j].run r) := by
  have hd' : (p.setWork j w).jobs[j].defn = some { d with work := w } := Part.setWork_defn w hd
  have hrun : (p.setWork j w).jobs[j].run = p.jobs[j].run := by simp
  have hverdict := Part.takenEnding_eq (cause := cause) hd'
  rw [hrun] at hverdict
  exact ⟨_, _, Part.endsWith_endJob hd', hverdict⟩

end

/-- Settles O28, by the kind of the job and the checks of its values. -/
theorem alterActsByKind : Obligations.AlterActsByKind := by
  unfold Obligations.AlterActsByKind
  intro s f j d htakes hkind hd hstate
  have hn := jobNumber_byte j
  have halter : s.dropFrame.jobs[j].state.alterable = true := JobState.alterable_eq_true hstate
  have hd' : s.dropFrame.jobs[j].defn = some d := hd
  have hw := Part.workOf_of_defn hd'
  refine ⟨fun c g limit step hwork hlimit hstep hpayload => ?count, fun m g low high report hwork hlow hhigh hreport hpayload =>
    ?measure, fun k g period hwork hperiod hpayload => ?tick, fun v g period width hwork hperiod hwidth hpayload => ?wave,
    fun x g delay width hwork hdelay hwidth hpayload => ?echo, fun code values hpayload hwrong h1 h2 h4 h5 h6 => ?wrongKind⟩
  case count =>
    rw [hwork] at hw
    rw [List.append_assoc] at hpayload
    have hverdict := actAlter_count hn halter hw hlimit hstep
    refine ⟨fun hbad => alterRow.denies (status := .badParam) (detail := 3) htakes hkind hpayload
      (hverdict.trans (if_pos hbad)), fun hgood => ⟨_, rfl, fun hgoes => ?_, fun harmed hne hle => ?_⟩⟩
    · refine alterRow.answers htakes hkind hpayload ((hverdict.trans (if_neg (Nat.not_lt.2 hgood))).trans (if_neg ?_))
      rintro ⟨harmed, hne, hle⟩
      rcases hgoes with h | h | h
      · exact harmed h
      · exact hne h
      · exact absurd hle (Nat.not_le.2 h)
    · obtain ⟨t, r, hends, hverdict'⟩ := Part.takenEnding_setWork (cause := .limitReached)
        (w := .count { c with limit := limit, step := step } g) hd'
      exact ⟨t, r, hends, alterRow.answers htakes hkind hpayload
        (((hverdict.trans (if_neg (Nat.not_lt.2 hgood))).trans (if_pos ⟨harmed, hne, hle⟩)).trans hverdict')⟩
  case measure =>
    rw [hwork] at hw
    rw [List.append_assoc, List.append_assoc] at hpayload
    have hverdict := actAlter_measure hn halter hw hlow hhigh hreport
    refine ⟨fun hbad => alterRow.denies (status := .badParam) (detail := 4) htakes hkind hpayload
      (hverdict.trans (if_pos hbad)), fun horder hstall => ⟨_, rfl, fun hnone => ?_, fun e ref t he hpurpose href ht => ?_⟩⟩
    · have hgood := hverdict.trans (if_neg (by rcases horder with h | h | h <;> rcases hstall with h' | h' <;> simp_all))
      exact alterRow.answers htakes hkind hpayload
        (hgood.trans (Part.recomputeStall_none g high (Part.holdsStall_eq_false hnone)))
    · have hgood := hverdict.trans (if_neg (by rcases horder with h | h | h <;> rcases hstall with h' | h' <;> simp_all))
      have hholds : (s.dropFrame.setWork j (.measure { m with lowLimit := low, highLimit := high, reportInterval := report }
          { g with sinceReport := if report = 0 then 0 else g.sinceReport })).holdsStall j = true :=
        Part.holdsStall_of_entry he hpurpose
      have hrecomputed := hgood.trans
        (Part.recomputeStall_of_reference high hholds (g.stallReference_eq.trans href))
      subst ht
      refine ⟨fun hahead => ⟨_, rfl, alterRow.answers htakes hkind hpayload
        (hrecomputed.trans (if_neg (Bool.eq_false_iff.1 hahead)))⟩, fun hdue => ?_⟩
      obtain ⟨u, r, hends, hverdict'⟩ := Part.takenEnding_setWork (cause := .stall)
        (w := .measure { m with lowLimit := low, highLimit := high, reportInterval := report }
          { g with sinceReport := if report = 0 then 0 else g.sinceReport }) hd'
      exact ⟨u, r, hends, alterRow.answers htakes hkind hpayload ((hrecomputed.trans (if_pos hdue)).trans hverdict')⟩
  case tick =>
    rw [hwork] at hw
    have hverdict := actAlter_tick hn halter hw hperiod
    exact ⟨fun hbad => alterRow.denies (status := .badParam) (detail := 3) htakes hkind hpayload (hverdict.trans (if_pos hbad)),
      fun hgood => ⟨_, rfl, alterRow.answers htakes hkind hpayload (hverdict.trans (if_neg (Nat.not_lt.2 hgood)))⟩⟩
  case wave =>
    rw [hwork] at hw
    rw [List.append_assoc] at hpayload
    have hverdict := actAlter_wave hn halter hw hperiod hwidth
    refine ⟨fun hbad => alterRow.denies (status := .badParam) (detail := 3) htakes hkind hpayload
      (hverdict.trans (if_pos hbad)), fun hten hbad => alterRow.denies (status := .badParam) (detail := 4) htakes hkind hpayload
      ((hverdict.trans (if_neg (Nat.not_lt.2 hten))).trans (if_pos hbad)), fun hten hne hlt => ⟨_, rfl, ?_⟩⟩
    exact alterRow.answers htakes hkind hpayload ((hverdict.trans (if_neg (Nat.not_lt.2 hten))).trans
      (if_neg fun h => h.elim hne (Nat.not_le.2 hlt)))
  case echo =>
    rw [hwork] at hw
    rw [List.append_assoc] at hpayload
    have hverdict := actAlter_echo hn halter hw hdelay hwidth
    exact ⟨fun hbad => alterRow.denies (status := .badParam) (detail := 4) htakes hkind hpayload (hverdict.trans (if_pos hbad)),
      fun hgood => ⟨_, rfl, alterRow.answers htakes hkind hpayload (hverdict.trans (if_neg hgood))⟩⟩
  case wrongKind =>
    have hlengths : ∀ r ∈ alterLengths, code = r.1 → values.length = r.2 := by
      simp only [alterLengths, List.forall_mem_cons, List.not_mem_nil, IsEmpty.forall_iff, implies_true, and_true]
      exact ⟨h1, h2, h4, h5, h6⟩
    refine alterRow.denies (status := .wrongKind) (detail := 0) htakes hkind hpayload
      (actAlter_wrongKind (alterLengthOk_of_lengths hlengths) hn halter hw (hwrong.imp id fun hne h => ?_))
    exact hne (JobKind.code_of_ofCode h)

end Sys2Proof.Machine
end

section
/-! SUPPORT. R19, R58, R78, R90, R98, R108, R120, R173 and R174: what READ shows. -/

namespace Sys2Proof.Machine

open Sys2Proof

/-! ### The common part (R173) -/

theorem startModeBytes_eq (m : StartMode) : startModeBytes m = m.encode Fill.blank := by
  cases m <;> simp only [startModeBytes, beBytes_one] <;> rfl

theorem endActionBytes_eq (a : Option EndAction) :
    beBytes 1 (EndAction.code a) ++ beBytes 1 (EndAction.targetNumber a) = encodeEndAction Fill.blank a := by
  rcases a with _ | ⟨t⟩ | ⟨t⟩ <;> simp only [beBytes_one] <;> rfl

theorem outputBytes_eq (u : Option OutputUse) : outputBytes u = encodeOutput Fill.blank u := by
  cases u <;> simp only [outputBytes, beBytes_one] <;> rfl

theorem flagByte_eq (b : Bool) : beBytes 1 (if b then 1 else 0) = yesNo b := by cases b <;> rfl

theorem yesNo_length (b : Bool) : (yesNo b).length = 1 := rfl

theorem StartMode.encode_length (x : Fill) (m : StartMode) : (m.encode x).length = 3 := by cases m <;> rfl

theorem encodeEndAction_length (x : Fill) (a : Option EndAction) : (encodeEndAction x a).length = 2 := by
  rcases a with _ | ⟨t⟩ | ⟨t⟩ <;> rfl

theorem encodeOutput_length (x : Fill) (u : Option OutputUse) : (encodeOutput x u).length = 2 := by cases u <;> rfl

/-- The bytes of a result with its end time; zero with no result. -/
theorem resultBytes_endTime (r : Option Result) : resultBytes r ++ endTimeBytes r =
    match r with
    | none => List.replicate 17 0x00#8
    | some r => beBytes 1 r.cause.code ++ beBytes 5 r.final ++ beBytes 4 r.aux ++ beBytes 1 r.outcome.code ++
        beBytes 6 r.endTime.toNat := by
  cases r <;> rfl

theorem resultBytes_length (r : Option Result) : (resultBytes r).length = 11 := by
  cases r <;> simp only [resultBytes, List.length_append, beBytes_length]

theorem endTimeBytes_length (r : Option Result) : (endTimeBytes r).length = 6 := by
  cases r <;> exact beBytes_length 6 _

theorem cellBytes_length (cs : List CellId) : (cellBytes cs).length = 2 := by
  rcases cs with _ | ⟨low, _ | ⟨high, rest⟩⟩ <;> simp only [cellBytes, List.length_append, beBytes_length] <;> rfl

/-- The cells held, 0xFF for none. -/
theorem cellBytes_eq (cs : List CellId) : cellBytes cs =
    match cs with
    | [] => [0xFF#8, 0xFF#8]
    | [low] => beBytes 1 low.val ++ [0xFF#8]
    | low :: high :: _ => beBytes 1 low.val ++ beBytes 1 high.val := by
  rcases cs with _ | ⟨low, _ | ⟨high, rest⟩⟩ <;> rfl

section
variable {p : Part} {j : JobId} {d : Definition}

theorem Part.readCommon_length : (p.readCommon j d).length = 38 := by
  simp only [Part.readCommon, timeBytes, List.length_append, beBytes_length, startModeBytes_eq, StartMode.encode_length,
    outputBytes_eq, encodeOutput_length, cellBytes_length, resultBytes_length, endTimeBytes_length]

/-- The common part in the order of R173. -/
theorem Part.readCommon_eq : p.readCommon j d = beBytes 6 p.time.toNat ++ beBytes 1 (j.val + 1) ++
    beBytes 1 p.jobs[j].state.code ++ beBytes 1 d.work.kind.code ++ beBytes 1 p.jobs[j].run.toNat ++
    d.startMode.encode Fill.blank ++ encodeEndAction Fill.blank d.endAction ++ encodeOutput Fill.blank d.output ++
    cellBytes p.jobs[j].cells ++ beBytes 1 p.jobs[j].lost ++ yesNo p.jobs[j].reservation ++
    (resultBytes p.jobs[j].result ++ endTimeBytes p.jobs[j].result) := by
  rw [← startModeBytes_eq, ← endActionBytes_eq, ← outputBytes_eq, ← flagByte_eq]
  simp only [Part.readCommon, List.append_assoc]
  rfl

theorem actRead_job {n : Byte} (hn : n.toNat = j.val + 1) (hstate : p.jobs[j].state ≠ .free) (hd : p.jobs[j].defn = some d) :
    actRead p [n] = .taken p (p.readCommon j d ++ p.readKind j d.work) := by
  refine (onJob_job hn [] _).trans ?_
  rw [hd]
  cases hs : p.jobs[j].state with
  | free => exact absurd hs hstate
  | defined => rfl
  | armed => rfl
  | running => rfl
  | held => rfl
  | stopping => rfl
  | ended => rfl

end

/-! ### The kind part (R174) -/

/-- The time to an event, as READ shows it (log entry 2). -/
theorem State.leftUntil_timeTo (s : State) (overdue : Time → Time → Nat) (due : Time) (largest : Nat) :
    s.LeftUntil due largest (timeTo overdue largest s.time due) :=
  ⟨timeTo_of_not_reached, fun h => h ▸ timeTo_self .., timeTo_le⟩

theorem MeasureMode.code_byte (m : MeasureMode) : beBytes 1 m.code =
    [match m with | .period => 0x01#8 | .high => 0x02#8 | .low => 0x03#8 | .rate _ _ => 0x04#8] := by
  rw [beBytes_one]
  cases m <;> rfl

theorem Overlap.code_byte (x : Overlap) :
    beBytes 1 x.code = [match x with | .queue => 0x01#8 | .replace => 0x02#8 | .ignore => 0x03#8] := by
  cases x <;> rfl

theorem orZero_eq (x : Option Nat) : orZero x = x.getD 0 := by cases x <;> rfl

section
variable {p : Part} {j : JobId}

theorem Part.measureInProgress_length (m : MeasureParams) (g : MeasureProgress) : (p.measureInProgress j m g).length = 9 := by
  unfold Part.measureInProgress
  split <;> simp only [List.length_append, beBytes_length]

theorem Part.measureInProgress_none {m : MeasureParams} {g : MeasureProgress} (hinterval : g.interval = none)
    (hwindow : g.windowStart = none) : p.measureInProgress j m g = List.replicate 9 0x00#8 := by
  simp only [Part.measureInProgress, hinterval, hwindow]
  cases m.mode <;> rfl

theorem Part.measureInProgress_interval {m : MeasureParams} {g : MeasureProgress} {i : OpenInterval}
    (hinterval : g.interval = some i) (hmode : ∀ sel window, m.mode ≠ .rate sel window) :
    p.measureInProgress j m g = [0x01#8] ++ beBytes 4 (i.elapsed p.time) ++ beBytes 4 0 := by
  simp only [Part.measureInProgress, hinterval]
  cases hm : m.mode with
  | period => rfl
  | high => rfl
  | low => rfl
  | rate sel window => exact absurd hm (hmode sel window)

theorem Part.measureInProgress_window {m : MeasureParams} {g : MeasureProgress} {sel : EdgeSelect} {window : Nat} {start : Time}
    (hmode : m.mode = .rate sel window) (hstart : g.windowStart = some start) :
    p.measureInProgress j m g = [0x02#8] ++ beBytes 4 (p.countOf j) ++
      beBytes 4 (timeTo Config.overdueWindow max32 p.time (plus start window)) := by
  simp only [Part.measureInProgress, hmode, hstart]
  rfl

theorem Part.stallShown_length : (p.stallShown j).length = 6 := by
  unfold Part.stallShown
  split
  · rfl
  · split <;> simp only [List.length_append, beBytes_length, yesNo_length]

theorem Part.stallShown_none (h : ∀ e ∈ p.schedule, e.job = j → e.purpose ≠ .stall) :
    p.stallShown j = List.replicate 6 0x00#8 := by
  unfold Part.stallShown
  split
  · rfl
  · rename_i e he
    have hjob : e.job = j := by simpa using List.find?_some he
    rw [if_neg (h e (List.mem_of_find?_eq_some he) hjob)]
    rfl

theorem Part.stallShown_entry {e : DeadlineEntry} (he : p.schedule.find? (fun x => decide (x.job = j)) = some e)
    (hpurpose : e.purpose = .stall) :
    p.stallShown j = [0x01#8] ++ beBytes 5 (timeTo Config.overdueStall (2 ^ 32) p.time e.due) := by
  simp only [Part.stallShown, Part.entryOf, he, hpurpose, if_true]
  rfl

theorem Part.readKind_measure (m : MeasureParams) (g : MeasureProgress) : p.readKind j (.measure m g) =
    [match m.mode with | .period => 0x01#8 | .high => 0x02#8 | .low => 0x03#8 | .rate _ _ => 0x04#8] ++
      beBytes 4 m.lowLimit ++ beBytes 4 m.highLimit ++ beBytes 1 m.reportInterval ++ beBytes 4 g.accepted ++
      beBytes 4 (g.last.getD 0) ++ beBytes 4 (g.minimum.getD 0) ++ beBytes 4 (g.maximum.getD 0) ++ beBytes 1 g.sinceReport ++
      p.measureInProgress j m g ++ p.stallShown j := by
  rw [← MeasureMode.code_byte, ← orZero_eq, ← orZero_eq, ← orZero_eq]
  rfl

/-- The time to the next tick and whether there is one (R98). -/
def Part.tickShown (p : Part) (j : JobId) (k : TickParams) (g : TickProgress) : List Byte :=
  yesNo (p.timeToTick j k g).isSome ++ beBytes 4 (orZero (p.timeToTick j k g))

theorem Part.readKind_tick (k : TickParams) (g : TickProgress) : p.readKind j (.tick k g) =
    beBytes 4 g.ticksDone.toNat ++ p.tickShown j k g ++ beBytes 4 k.period ++ beBytes 2 k.limit ++
      beBytes 4 (stagedPeriod p.jobs[j].staged) := by
  simp only [Part.readKind, Part.tickShown, List.append_assoc]

theorem Part.tickShown_some {k : TickParams} {g : TickProgress} {left : Nat} (h : p.timeToTick j k g = some left) :
    p.tickShown j k g = [0x01#8] ++ beBytes 4 left := by
  simp only [Part.tickShown, h]
  rfl

/-- The phase in progress with its times (R108). -/
def Part.phaseShown (p : Part) (j : JobId) (g : WaveProgress) : List Byte :=
  beBytes 1 (WavePhase.code g.phase) ++ beBytes 3 (if g.phase.isSome then p.phaseLeft j else 0) ++
    beBytes 3 (match g.periodStart with
      | none => 0
      | some t => (p.time - t).toNat)

theorem Part.readKind_wave (v : WaveParams) (g : WaveProgress) : p.readKind j (.wave v g) =
    beBytes 4 g.pulses.toNat ++ p.phaseShown j g ++ beBytes 3 v.period ++ beBytes 3 v.width ++ beBytes 2 v.limit ++
      (beBytes 3 (stagedPeriod p.jobs[j].staged) ++ beBytes 3 (stagedWidth p.jobs[j].staged)) := by
  cases hstart : g.periodStart <;> simp only [Part.readKind, Part.phaseShown, hstart, List.append_assoc]

theorem Part.phaseLeft_of_cell {c : CellId} {x : CellPhase} (hc : p.jobs[j].cells.head? = some c)
    (hx : p.cells[c].phase = some x) :
    p.phaseLeft j = timeTo Config.overduePhase 16777215 p.time (plus x.start x.length) := by
  obtain ⟨rest, hcells⟩ := List.head?_eq_some_iff.1 hc
  simp only [Part.phaseLeft, Part.phaseOf, hcells, hx]
  rfl

/-- The pulse in progress with its time left (R120). -/
def Part.pulseShown (p : Part) (g : EchoProgress) : List Byte :=
  yesNo g.pulse.isSome ++ beBytes 2 (match g.pulse with
    | none => 0
    | some u => timeTo Config.overduePulse 65535 p.time u.endTime)

theorem Part.readKind_echo (x : EchoParams) (g : EchoProgress) : p.readKind j (.echo x g) =
    beBytes 3 x.delay ++ beBytes 2 x.width ++
      [match x.overlap with | .queue => 0x01#8 | .replace => 0x02#8 | .ignore => 0x03#8] ++
      beBytes 2 x.limit ++ beBytes 4 g.pulses.toNat ++ beBytes 4 g.missed ++ beBytes 4 g.slipped ++ beBytes 4 g.cut ++
      p.pulseShown g ++ beBytes 1 g.pendingList.length ++ g.pendingList.flatMap (fun y => beBytes 6 y.due.toNat) := by
  rw [← Overlap.code_byte]
  cases hpulse : g.pulse <;> simp only [Part.readKind, Part.pulseShown, hpulse, List.append_assoc, timeBytes]

theorem Part.timeLeftOf_entry {e : DeadlineEntry} (he : p.schedule.find? (fun x => decide (x.job = j)) = some e) :
    p.timeLeftOf j = if reached p.time e.due then 0 else (e.due - p.time).toNat := Part.leftAt_of_entry p.time he

/-- The line of a DELAY job that runs is active exactly while the job owns it (R90). -/
theorem Part.ownedOutput_isSome {d : Definition} (hd : p.jobs[j].defn = some d) : (p.ownedOutput j).isSome =
    match d.output with
    | none => false
    | some u => decide (p.outputs[u.line].owner = some j) := by
  simp only [Part.ownedOutput, hd]
  cases d.output with
  | none => rfl
  | some u =>
    by_cases h : p.outputs[u.line].owner = some j
    · simp only [h, if_true, decide_true, Option.isSome_some]
    · simp only [h, if_false, decide_false, Option.isSome_none]

end

/-- Settles O29: the common part field by field, and the kind part by kind. -/
theorem readAnswersSnapshot : Obligations.ReadAnswersSnapshot := by
  unfold Obligations.ReadAnswersSnapshot
  intro s f j d htakes hkind hpayload hstate hd
  have hd' : s.dropFrame.jobs[j].defn = some d := hd
  have hanswers := readRow.answers htakes hkind hpayload (actRead_job (p := s.dropFrame) (jobNumber_byte j) hstate hd')
  rw [← List.append_assoc] at hanswers
  have hentry (e : DeadlineEntry) (he : s.schedule.find? (fun x => decide (x.job = j)) = some e) :=
    Part.timeLeftOf_entry (p := s.dropFrame) he
  refine ⟨_, s.dropFrame.readKind j d.work, hanswers, ?common, Part.readCommon_length, fun c g hw => ?count, fun m g hw => ?measure,
    fun k g hw => ?delay, fun k g hw => ?tick, fun v g hw => ?wave, fun x g hw => ?echo⟩
  case common =>
    rw [Part.readCommon_eq, resultBytes_endTime, cellBytes_eq]
    rfl
  case count =>
    rw [hw]
    exact ⟨by simp only [Part.readKind, List.length_append, beBytes_length, yesNo_length], rfl⟩
  case measure =>
    rw [hw, Part.readKind_measure]
    refine ⟨?_, _, _, rfl, Part.measureInProgress_none, fun i hi hmode => Part.measureInProgress_interval hi hmode,
      fun sel window start hmode hstart => ⟨_, Part.measureInProgress_window hmode hstart, s.leftUntil_timeTo ..⟩,
      fun hnone => Part.stallShown_none (p := s.dropFrame) hnone,
      fun e he hpurpose => ⟨_, Part.stallShown_entry (p := s.dropFrame) he hpurpose, s.leftUntil_timeTo ..⟩⟩
    simp only [List.length_append, beBytes_length, Part.measureInProgress_length, Part.stallShown_length, List.length_singleton]
  case delay =>
    rw [hw]
    have hread : s.dropFrame.readKind j (.delay k g) = beBytes 4 k.duration ++ beBytes 4 (s.dropFrame.delayRemaining j k g) ++
      yesNo (decide (s.jobs[j].state = .running) && (s.dropFrame.ownedOutput j).isSome) := rfl
    rw [hread, Part.ownedOutput_isSome hd']
    refine ⟨by simp only [List.length_append, beBytes_length, yesNo_length], fun h => ?_, fun h => ?_, fun e h he => ?_⟩
    · have hleft : s.dropFrame.delayRemaining j k g = k.duration := by
        rcases h with h | h <;> simp only [Part.delayRemaining, show s.dropFrame.jobs[j].state = _ from h]
      rw [hleft]
      rcases h with h | h <;> rw [h] <;> rfl
    · have hleft : s.dropFrame.delayRemaining j k g = g.remaining := by
        rcases h with h | h <;> simp only [Part.delayRemaining, show s.dropFrame.jobs[j].state = _ from h]
      rw [hleft]
      rcases h with h | h <;> rw [h] <;> rfl
    · have hleft : s.dropFrame.delayRemaining j k g = s.dropFrame.timeLeftOf j := by
        simp only [Part.delayRemaining, show s.dropFrame.jobs[j].state = _ from h]
      rw [hleft, hentry e he, h]
      rfl
  case tick =>
    rw [hw, Part.readKind_tick]
    refine ⟨?_, _, _, rfl, fun h => Part.tickShown_some ?_, fun e h he => ?_, fun h => Part.tickShown_some ?_, fun h => ?_,
      fun h => ?_, fun period h => ?_⟩
    · simp only [Part.tickShown, List.length_append, beBytes_length, yesNo_length]
    · rcases h with h | h <;> simp only [Part.timeToTick, show s.dropFrame.jobs[j].state = _ from h]
    · have hleft : s.dropFrame.timeToTick j k g = some (s.dropFrame.timeLeftOf j) := by
        rcases h with h | h <;> simp only [Part.timeToTick, show s.dropFrame.jobs[j].state = _ from h]
      rw [Part.tickShown_some hleft, hentry e he]
      rfl
    · simp only [Part.timeToTick, show s.dropFrame.jobs[j].state = _ from h]
    · simp only [Part.tickShown, Part.timeToTick, show s.dropFrame.jobs[j].state = _ from h]
      rfl
    · rw [show s.dropFrame.jobs[j].staged = none from h]
      rfl
    · rw [show s.dropFrame.jobs[j].staged = some (.period period) from h]
      rfl
  case wave =>
    rw [hw, Part.readKind_wave]
    refine ⟨?_, _, _, rfl, fun hphase hstart => ?_, fun ph start c x hphase hstart hc hx => ⟨_, ?_, s.leftUntil_timeTo Config.overduePhase ..⟩,
      fun h => ?_, fun period width h => ?_⟩
    · simp only [Part.phaseShown, List.length_append, beBytes_length]
    · simp only [Part.phaseShown, hphase, hstart, Option.isSome_none, Bool.false_eq_true, if_false]
      rfl
    · have hleft := Part.phaseLeft_of_cell (p := s.dropFrame) hc hx
      have hcode : beBytes 1 (WavePhase.code (some ph)) = [if ph = .active then 0x01#8 else 0x02#8] := by cases ph <;> rfl
      simp only [Part.phaseShown, hphase, hstart, Option.isSome_some, if_true, hleft, hcode]
      rfl
    · rw [show s.dropFrame.jobs[j].staged = none from h]
      rfl
    · rw [show s.dropFrame.jobs[j].staged = some (.pair period width) from h]
      rfl
  case echo =>
    rw [hw, Part.readKind_echo]
    refine ⟨?_, _, rfl, fun h => ?_, fun u h => ⟨_, ?_, s.leftUntil_timeTo Config.overduePulse ..⟩⟩
    · have hlist := length_flatMap_of_const g.pendingList (fun y => beBytes 6 y.due.toNat) 6 fun y => beBytes_length 6 _
      simp only [Part.pulseShown, List.length_append, beBytes_length, yesNo_length, List.length_singleton, hlist]
    · simp only [Part.pulseShown, h]
      rfl
    · simp only [Part.pulseShown, h]
      rfl

end Sys2Proof.Machine
end

section
/-! SUPPORT. R5, R7, R169 and R170: the checks of DEFINE, field by field. -/

namespace Sys2Proof.Machine

open Sys2Proof

/-! ### The first check that fails (R5) -/

theorem firstFailing_append (a b : List (Nat × Bool)) : firstFailing (a ++ b) = (firstFailing a).or (firstFailing b) := by
  induction a with
  | nil => rfl
  | cons x xs ih =>
    obtain ⟨index, fails⟩ := x
    cases fails
    · exact ih
    · rfl

theorem firstFailing_pass (index : Nat) (rest : List (Nat × Bool)) : firstFailing ((index, false) :: rest) = firstFailing rest :=
  rfl

theorem firstFailing_eq_none {l : List (Nat × Bool)} : firstFailing l = none ↔ ∀ x ∈ l, x.2 = false := by
  induction l with
  | nil => simp [firstFailing]
  | cons x xs ih =>
    obtain ⟨index, fails⟩ := x
    cases fails
    · rw [firstFailing_pass, ih]
      simp
    · simp [firstFailing]

theorem firstFailing_at {pre post : List (Nat × Bool)} {index : Nat} (h : ∀ x ∈ pre, x.2 = false) :
    firstFailing (pre ++ (index, true) :: post) = some index := by
  rw [firstFailing_append, firstFailing_eq_none.2 h]
  rfl

/-! ### Codes as bytes (R168) -/

theorem byte_toNat_eq {b : Byte} {n : Nat} (h : n < 256) : b.toNat = n ↔ b = BitVec.ofNat 8 n := by
  rw [BitVec.toNat_eq, BitVec.toNat_ofNat, Nat.mod_eq_of_lt h]

theorem EdgeSelect.ofCode_isNone (n : Nat) : (EdgeSelect.ofCode n).isNone = decide (n = 0 ∨ 3 < n) := by
  match n with
  | 0 => rfl
  | 1 => rfl
  | 2 => rfl
  | 3 => rfl
  | n + 4 => simp [EdgeSelect.ofCode]

theorem Overlap.ofCode_isNone (n : Nat) : (Overlap.ofCode n).isNone = decide (n = 0 ∨ 3 < n) := by
  match n with
  | 0 => rfl
  | 1 => rfl
  | 2 => rfl
  | 3 => rfl
  | n + 4 => simp [Overlap.ofCode]

theorem Polarity.ofCode_isNone (n : Nat) : (Polarity.ofCode n).isNone = decide (n ≠ 1 ∧ n ≠ 2) := by
  match n with
  | 0 => rfl
  | 1 => rfl
  | 2 => rfl
  | n + 3 => simp [Polarity.ofCode]

theorem levelOfCode_isNone (n : Nat) : (levelOfCode n).isNone = decide (1 < n) := by
  match n with
  | 0 => rfl
  | 1 => rfl
  | n + 2 => simp [levelOfCode]

theorem jobNumberOk_eq_false (n : Nat) : (!jobNumberOk n) = decide (n = 0 ∨ 32 < n) := by
  rw [Bool.eq_iff_iff]
  simp only [jobNumberOk, Bool.not_eq_true', Bool.and_eq_false_imp, decide_eq_true_eq, decide_eq_false_iff_not]
  omega

/-! ### The checks as R5 orders them -/

section
variable {s : State} {f : Frame} {j : JobId} {lines values : List (Nat × Bool)}

theorem JobState.definable_eq (st : JobState) : st.definable = !st.live := by cases st <;> rfl

theorem actDefine_badLength {p : Part} {payload : List Byte} (h : defineLengthOk payload = false) :
    actDefine p payload = .deny .badLength 0 := by
  rw [actDefine, h]
  rfl

theorem actDefine_badJob {p : Part} {n : Byte} {rest : List Byte} (hlength : defineLengthOk (n :: rest) = true)
    (h : n.toNat = 0 ∨ 32 < n.toNat) : actDefine p (n :: rest) = .deny .badJob 0 := by
  rw [actDefine, hlength]
  exact onJob_badJob h _ _

section
variable {p : Part} {n : Byte} {rest : List Byte} (hlength : defineLengthOk (n :: rest) = true) (hn : n.toNat = j.val + 1)
include hlength hn

theorem actDefine_badLine {index : Nat} (h : firstFailing (defineLineChecks (n :: rest)) = some index) :
    actDefine p (n :: rest) = .deny .badLine index := by
  rw [actDefine, hlength]
  refine (onJob_job hn _ _).trans ?_
  rw [h]

theorem actDefine_wrongState (hline : firstFailing (defineLineChecks (n :: rest)) = none)
    (hlive : p.jobs[j].state.live = true) : actDefine p (n :: rest) = .deny .wrongState 0 := by
  rw [actDefine, hlength]
  refine (onJob_job hn _ _).trans ?_
  rw [hline]
  exact if_neg (by rw [JobState.definable_eq, hlive]; decide)

theorem actDefine_badParam (hline : firstFailing (defineLineChecks (n :: rest)) = none)
    (hlive : p.jobs[j].state.live = false) {index : Nat} (h : firstFailing (defineValueChecks (n :: rest)) = some index) :
    actDefine p (n :: rest) = .deny .badParam index := by
  rw [actDefine, hlength]
  refine (onJob_job hn _ _).trans ?_
  rw [hline]
  refine (if_pos (by rw [JobState.definable_eq, hlive]; rfl)).trans ?_
  rw [h]

theorem actDefine_taken (hline : firstFailing (defineLineChecks (n :: rest)) = none) (hlive : p.jobs[j].state.live = false)
    (hvalue : firstFailing (defineValueChecks (n :: rest)) = none) {kind : JobKind}
    (hkind : JobKind.ofCode (common (n :: rest) 2) = some kind) :
    actDefine p (n :: rest) = (p.setJob j (Job.defined (definitionOf (n :: rest) kind))).takenSummary j false := by
  rw [actDefine, hlength]
  refine (onJob_job hn _ _).trans ?_
  rw [hline]
  refine (if_pos (by rw [JobState.definable_eq, hlive]; rfl)).trans ?_
  rw [hvalue, hkind]

end

/-- A DEFINE is refused by the first of these checks that fails. -/
theorem State.defineRefused_of_checks {n : Byte} {rest : List Byte} (htakes : s.Takes f) (hkind : f.kind = 0x02#8)
    (hpayload : f.payload = n :: rest) (hlength : defineLengthOk (n :: rest) = true) (hn : n.toNat = j.val + 1)
    (hlines : firstFailing (defineLineChecks (n :: rest)) = firstFailing lines)
    (hvalues : firstFailing (defineValueChecks (n :: rest)) = firstFailing values) : s.DefineRefused f j lines values := by
  refine ⟨fun pre index post hl hpre => ?line, fun hpass => ⟨fun hlive => ?state, fun hlive pre index post hv hpre => ?value⟩⟩
  case line =>
    rw [hl, firstFailing_at hpre] at hlines
    exact defineRow.denies htakes hkind hpayload (actDefine_badLine hlength hn hlines)
  case state =>
    rw [firstFailing_eq_none.2 hpass] at hlines
    exact defineRow.denies htakes hkind hpayload (actDefine_wrongState (p := s.dropFrame) hlength hn hlines hlive)
  case value =>
    rw [firstFailing_eq_none.2 hpass] at hlines
    rw [hv, firstFailing_at hpre] at hvalues
    exact defineRow.denies htakes hkind hpayload (actDefine_badParam (p := s.dropFrame) hlength hn hlines hlive hvalues)

end

/-! ### The nine common fields (R170) -/

section
variable (b1 b2 b3 b4 b5 b6 b7 b8 b9 : Byte) (block : List Byte)

/-- What stands behind the nine common fields is read without them. -/
theorem field_block (offset width : Nat) :
    field ([b1, b2, b3, b4, b5, b6, b7, b8, b9] ++ block) (offset + 9) width = field block offset width := rfl

/-- The line fields that a kind adds; none for a kind byte that names no kind. -/
def blockLines (payload : List Byte) : Option JobKind → List (Nat × Bool)
  | some k => blockLineChecks payload k
  | none => []

/-- The line checks of DEFINE, the common ones first. -/
theorem defineLineChecks_eq : defineLineChecks ([b1, b2, b3, b4, b5, b6, b7, b8, b9] ++ block) = commonLines b3 b4 b8 ++
    blockLines ([b1, b2, b3, b4, b5, b6, b7, b8, b9] ++ block) (JobKind.ofCode b2.toNat) := by
  have h2 : common ([b1, b2, b3, b4, b5, b6, b7, b8, b9] ++ block) 2 = b2.toNat := by simp [common]
  have h3 : common ([b1, b2, b3, b4, b5, b6, b7, b8, b9] ++ block) 3 = b3.toNat := by simp [common]
  have h4 : common ([b1, b2, b3, b4, b5, b6, b7, b8, b9] ++ block) 4 = b4.toNat := by simp [common]
  have h8 : common ([b1, b2, b3, b4, b5, b6, b7, b8, b9] ++ block) 8 = b8.toNat := by simp [common]
  have harming : (decide (b3.toNat = 2) && decide (16 ≤ b4.toNat)) = decide (b3 = 0x02#8 ∧ 16 ≤ b4.toNat) := by
    rw [← Bool.decide_and]
    exact decide_eq_decide.2 (and_congr_left' (byte_toNat_eq (by decide)))
  have houtput : (decide (8 ≤ b8.toNat) && decide (b8.toNat ≠ 0xFF)) = decide (8 ≤ b8.toNat ∧ b8 ≠ 0xFF#8) := by
    rw [← Bool.decide_and]
    exact decide_eq_decide.2 (and_congr_right' (byte_toNat_eq (by decide)).not)
  rw [defineLineChecks, h2, h3, h4, h8, harming, houtput]
  cases JobKind.ofCode b2.toNat <;> rfl

/-- The value checks of DEFINE for a byte that names a kind, the common ones first. -/
theorem defineValueChecks_eq {k : JobKind} (hk : JobKind.ofCode b2.toNat = some k) :
    firstFailing (defineValueChecks ([b1, b2, b3, b4, b5, b6, b7, b8, b9] ++ block)) =
      firstFailing (commonValues b3 b5 b6 b7 b8 b9 (outputRefused k b8.toNat) ++
        blockValueChecks ([b1, b2, b3, b4, b5, b6, b7, b8, b9] ++ block) k) := by
  have h2 : common ([b1, b2, b3, b4, b5, b6, b7, b8, b9] ++ block) 2 = b2.toNat := by simp [common]
  have h3 : common ([b1, b2, b3, b4, b5, b6, b7, b8, b9] ++ block) 3 = b3.toNat := by simp [common]
  have h5 : common ([b1, b2, b3, b4, b5, b6, b7, b8, b9] ++ block) 5 = b5.toNat := by simp [common]
  have h6 : common ([b1, b2, b3, b4, b5, b6, b7, b8, b9] ++ block) 6 = b6.toNat := by simp [common]
  have h7 : common ([b1, b2, b3, b4, b5, b6, b7, b8, b9] ++ block) 7 = b7.toNat := by simp [common]
  have h8 : common ([b1, b2, b3, b4, b5, b6, b7, b8, b9] ++ block) 8 = b8.toNat := by simp [common]
  have h9 : common ([b1, b2, b3, b4, b5, b6, b7, b8, b9] ++ block) 9 = b9.toNat := by simp [common]
  have hpolarity : (decide (b3.toNat = 2) && (Polarity.ofCode b5.toNat).isNone) =
      decide (b3 = 0x02#8 ∧ b5 ≠ 0x01#8 ∧ b5 ≠ 0x02#8) := by
    rw [Polarity.ofCode_isNone, ← Bool.decide_and]
    exact decide_eq_decide.2 (and_congr (byte_toNat_eq (by decide))
      (and_congr (byte_toNat_eq (by decide)).not (byte_toNat_eq (by decide)).not))
  have htarget : (decide (b6.toNat ≠ 0) && !jobNumberOk b7.toNat) = decide (b6 ≠ 0x00#8 ∧ (b7 = 0x00#8 ∨ 32 < b7.toNat)) := by
    rw [jobNumberOk_eq_false, ← Bool.decide_and]
    exact decide_eq_decide.2 (and_congr (byte_toNat_eq (by decide)).not (or_congr_left (byte_toNat_eq (by decide))))
  have hidle : (decide (b8.toNat ≠ 0xFF) && (levelOfCode b9.toNat).isNone) = decide (b8 ≠ 0xFF#8 ∧ 1 < b9.toNat) := by
    rw [levelOfCode_isNone, ← Bool.decide_and]
    exact decide_eq_decide.2 (and_congr_left' (byte_toNat_eq (by decide)).not)
  rw [defineValueChecks, h2, h3, h5, h6, h7, h8, h9, hk, hpolarity, htarget, hidle, Option.isNone_some]
  rfl

theorem defineValueChecks_noKind (hk : JobKind.ofCode b2.toNat = none) :
    firstFailing (defineValueChecks ([b1, b2, b3, b4, b5, b6, b7, b8, b9] ++ block)) = some 2 := by
  have h2 : common ([b1, b2, b3, b4, b5, b6, b7, b8, b9] ++ block) 2 = b2.toNat := by simp [common]
  rw [defineValueChecks, h2, hk]
  rfl

/-- The length check reads the kind byte (R169). -/
theorem defineLengthOk_eq : defineLengthOk ([b1, b2, b3, b4, b5, b6, b7, b8, b9] ++ block) =
    match JobKind.ofCode b2.toNat with
    | some k => decide (block.length + 9 = defineLength k)
    | none => true := by
  have h2 : common ([b1, b2, b3, b4, b5, b6, b7, b8, b9] ++ block) 2 = b2.toNat := by simp [common]
  have hlength : ([b1, b2, b3, b4, b5, b6, b7, b8, b9] ++ block).length = block.length + 9 := rfl
  rw [defineLengthOk, h2, hlength]
  cases JobKind.ofCode b2.toNat with
  | none => exact decide_eq_true (Nat.le_add_left 9 _)
  | some k => rfl

end

theorem defineLengthOk_short {payload : List Byte} (h : payload.length < 9) : defineLengthOk payload = false := by
  unfold defineLengthOk
  split
  · rename_i k _
    refine decide_eq_false fun hk => ?_
    rw [hk] at h
    cases k <;> exact absurd h (by decide)
  · exact decide_eq_false (Nat.not_le.2 h)

/-- Whether a kind refuses the output line field, as R7 has it. -/
theorem outputRefused_eq (b8 : Byte) : ∀ k : JobKind, outputRefused k b8.toNat =
    match k with
    | .wave => decide (b8 = 0xFF#8)
    | .echo => decide (b8 = 0xFF#8)
    | .count => decide (b8 ≠ 0xFF#8)
    | .measure => decide (b8 ≠ 0xFF#8)
    | .tick => decide (b8 ≠ 0xFF#8)
    | .delay => false := by
  have heq : b8.toNat = 0xFF ↔ b8 = 0xFF#8 := byte_toNat_eq (by decide)
  intro k
  cases k <;> simp only [outputRefused, heq, Ne]

end Sys2Proof.Machine
end

section
/-! SUPPORT. R46, R61, R85, R91, R101 and R110: the block of each kind in a DEFINE, and the checks of its fields. -/

namespace Sys2Proof.Machine

open Sys2Proof

/-! ### Fields behind others -/

theorem field_behind {pre : List Byte} {offset : Nat} (h : pre.length ≤ offset) (rest : List Byte) (width : Nat) :
    field (pre ++ rest) offset width = field rest (offset - pre.length) width := by
  rw [field, field, List.drop_append, List.drop_eq_nil_of_le h, List.nil_append]

theorem field_byte (n : Nat) (h : n < 256) : field (beBytes 1 n) 0 1 = n := field_beBytes_last (by simpa using h)

/-- The first checks decide when they fail on both sides alike. -/
theorem firstFailing_append_congr {a b b' : List (Nat × Bool)} (h : firstFailing a = none → firstFailing b = firstFailing b') :
    firstFailing (a ++ b) = firstFailing (a ++ b') := by
  rw [firstFailing_append, firstFailing_append]
  cases ha : firstFailing a with
  | none => rw [h ha]
  | some index => rfl

section
variable {payload : List Byte}

/-! ### COUNT (R46) -/

section
variable {source edge width gate level : Byte} {limit step : Nat}

/-- The fields of a COUNT block. -/
structure CountFields (payload : List Byte) (source edge width gate level limit step : Nat) : Prop where
  source : field payload 9 1 = source
  edge : field payload 10 1 = edge
  width : field payload 11 1 = width
  gate : field payload 12 1 = gate
  level : field payload 13 1 = level
  limit : field payload 14 4 = limit
  step : field payload 18 2 = step

theorem countFields (b1 b2 b3 b4 b5 b6 b7 b8 b9 source edge width gate level : Byte) {limit step : Nat} (hlimit : limit < 2 ^ 32)
    (hstep : step < 2 ^ 16) :
    CountFields ([b1, b2, b3, b4, b5, b6, b7, b8, b9] ++ ([source, edge, width, gate, level] ++ beBytes 4 limit ++ beBytes 2 step))
      source.toNat edge.toNat width.toNat gate.toNat level.toNat limit step := by
  rw [List.append_assoc]
  refine ⟨by simp, by simp, by simp, by simp, by simp, ?_, ?_⟩
  · exact (field_block _ _ _ _ _ _ _ _ _ _ 5 4).trans
      ((field_behind (by decide : 5 ≤ 5) _ 4).trans (field_beBytes (by omega) _))
  · exact (field_block _ _ _ _ _ _ _ _ _ _ 9 2).trans ((field_behind (by decide : 5 ≤ 9) _ 2).trans
      ((field_skip _ _ (by decide : 4 ≤ 4) 2).trans (field_beBytes_last (by omega))))

theorem CountFields.lines (h : CountFields payload source.toNat edge.toNat width.toNat gate.toNat level.toNat limit step) :
    blockLineChecks payload .count =
      [(10, decide (16 ≤ source.toNat)), (13, decide (16 ≤ gate.toNat ∧ gate ≠ 0xFF#8))] := by
  have hgate : (decide (16 ≤ gate.toNat) && decide (gate.toNat ≠ 0xFF)) = decide (16 ≤ gate.toNat ∧ gate ≠ 0xFF#8) := by
    rw [← Bool.decide_and]
    exact decide_eq_decide.2 (and_congr_right' (byte_toNat_eq (by decide)).not)
  rw [blockLineChecks, h.source, h.gate, hgate]

theorem CountFields.values (h : CountFields payload source.toNat edge.toNat width.toNat gate.toNat level.toNat limit step)
    (hlimit : limit < 2 ^ 32) (hstep : step < 2 ^ 16) :
    firstFailing (blockValueChecks payload .count) = firstFailing
      [(11, decide (edge.toNat = 0 ∨ 3 < edge.toNat)), (12, decide (width ≠ 0x10#8 ∧ width ≠ 0x20#8)),
       (13, decide (gate ≠ 0xFF#8 ∧ gate = source)), (14, decide (gate ≠ 0xFF#8 ∧ 1 < level.toNat)),
       (15, decide (width = 0x10#8 ∧ 65535 < limit))] := by
  have hwidth : (decide (width.toNat ≠ 0x10) && decide (width.toNat ≠ 0x20)) = decide (width ≠ 0x10#8 ∧ width ≠ 0x20#8) := by
    rw [← Bool.decide_and]
    exact decide_eq_decide.2 (and_congr (byte_toNat_eq (by decide)).not (byte_toNat_eq (by decide)).not)
  have hgate : (decide (gate.toNat ≠ 0xFF) && decide (gate.toNat = source.toNat)) = decide (gate ≠ 0xFF#8 ∧ gate = source) := by
    rw [← Bool.decide_and]
    exact decide_eq_decide.2 (and_congr (byte_toNat_eq (by decide)).not BitVec.toNat_inj)
  have hlevel : (decide (gate.toNat ≠ 0xFF) && (levelOfCode level.toNat).isNone) =
      decide (gate ≠ 0xFF#8 ∧ 1 < level.toNat) := by
    rw [levelOfCode_isNone, ← Bool.decide_and]
    exact decide_eq_decide.2 (and_congr_left' (byte_toNat_eq (by decide)).not)
  have hstep' : decide (65535 < step) = false := decide_eq_false (by omega)
  rw [blockValueChecks, h.source, h.edge, h.width, h.gate, h.level, h.limit, h.step, EdgeSelect.ofCode_isNone, hwidth, hgate,
    hlevel, hstep']
  refine firstFailing_append_congr (a := [(11, decide (edge.toNat = 0 ∨ 3 < edge.toNat)),
    (12, decide (width ≠ 0x10#8 ∧ width ≠ 0x20#8))]) fun hpass => firstFailing_append_congr
      (a := [(13, decide (gate ≠ 0xFF#8 ∧ gate = source)), (14, decide (gate ≠ 0xFF#8 ∧ 1 < level.toNat))]) fun _ => ?_
  have hcodes : width = 0x10#8 ∨ width = 0x20#8 := by
    have h12 : decide (width ≠ 0x10#8 ∧ width ≠ 0x20#8) = false :=
      firstFailing_eq_none.1 hpass _ (List.mem_cons_of_mem _ List.mem_cons_self)
    rw [decide_eq_false_iff_not] at h12
    tauto
  have hlargest : decide (largestOfWidthCode width.toNat < limit) = decide (width = 0x10#8 ∧ 65535 < limit) := by
    rcases hcodes with rfl | rfl
    · exact decide_eq_decide.2 ⟨fun h => ⟨rfl, h⟩, fun h => h.2⟩
    · refine decide_eq_decide.2 ⟨fun h => ?_, fun h => absurd h.1 (by decide)⟩
      have hwide : largestOfWidthCode (0x20#8).toNat = 4294967295 := rfl
      omega
  rw [hlargest]
  cases decide (width = 0x10#8 ∧ 65535 < limit) <;> rfl

end

/-! ### MEASURE (R61) -/

section
variable {source mode rate stall report : Byte} {window low high : Nat}

/-- The fields of a MEASURE block. -/
structure MeasureFields (payload : List Byte) (source mode rate window low high stall report : Nat) : Prop where
  source : field payload 9 1 = source
  mode : field payload 10 1 = mode
  rate : field payload 11 1 = rate
  window : field payload 12 4 = window
  low : field payload 16 4 = low
  high : field payload 20 4 = high
  stall : field payload 24 1 = stall
  report : field payload 25 1 = report

theorem measureFields (b1 b2 b3 b4 b5 b6 b7 b8 b9 source mode rate stall report : Byte) {window low high : Nat}
    (hwindow : window < 2 ^ 32) (hlow : low < 2 ^ 32) (hhigh : high < 2 ^ 32) :
    MeasureFields ([b1, b2, b3, b4, b5, b6, b7, b8, b9] ++ ([source, mode, rate] ++ beBytes 4 window ++ beBytes 4 low ++
      beBytes 4 high ++ [stall, report])) source.toNat mode.toNat rate.toNat window low high stall.toNat report.toNat := by
  rw [List.append_assoc, List.append_assoc, List.append_assoc]
  refine ⟨by simp, by simp, by simp, ?_, ?_, ?_, ?_, ?_⟩
  · exact (field_block _ _ _ _ _ _ _ _ _ _ 3 4).trans
      ((field_behind (by decide : 3 ≤ 3) _ 4).trans (field_beBytes (by omega) _))
  · exact (field_block _ _ _ _ _ _ _ _ _ _ 7 4).trans ((field_behind (by decide : 3 ≤ 7) _ 4).trans
      ((field_skip _ _ (by decide : 4 ≤ 4) 4).trans (field_beBytes (by omega) _)))
  · exact (field_block _ _ _ _ _ _ _ _ _ _ 11 4).trans ((field_behind (by decide : 3 ≤ 11) _ 4).trans
      ((field_skip _ _ (by decide : 4 ≤ 8) 4).trans ((field_skip _ _ (by decide : 4 ≤ 4) 4).trans
        (field_beBytes (by omega) _))))
  · exact (field_block _ _ _ _ _ _ _ _ _ _ 15 1).trans ((field_behind (by decide : 3 ≤ 15) _ 1).trans
      ((field_skip _ _ (by decide : 4 ≤ 12) 1).trans ((field_skip _ _ (by decide : 4 ≤ 8) 1).trans
        ((field_skip _ _ (by decide : 4 ≤ 4) 1).trans (field_head _ _)))))
  · exact (field_block _ _ _ _ _ _ _ _ _ _ 16 1).trans ((field_behind (by decide : 3 ≤ 16) _ 1).trans
      ((field_skip _ _ (by decide : 4 ≤ 13) 1).trans ((field_skip _ _ (by decide : 4 ≤ 9) 1).trans
        ((field_skip _ _ (by decide : 4 ≤ 5) 1).trans (field_second _ _ _)))))

theorem MeasureFields.lines {mode rate window low high stall report : Nat}
    (h : MeasureFields payload source.toNat mode rate window low high stall report) :
    blockLineChecks payload .measure = [(10, decide (16 ≤ source.toNat))] := by rw [blockLineChecks, h.source]

theorem MeasureFields.values
    (h : MeasureFields payload source.toNat mode.toNat rate.toNat window low high stall.toNat report.toNat)
    (hlow : low < 2 ^ 32) (hhigh : high < 2 ^ 32) :
    firstFailing (blockValueChecks payload .measure) = firstFailing
      [(11, decide (mode.toNat = 0 ∨ 4 < mode.toNat)),
       (12, decide (mode = 0x04#8 ∧ (rate.toNat = 0 ∨ 3 < rate.toNat))),
       (13, decide ((mode = 0x04#8 ∧ (window < 1000 ∨ 10000000 < window)) ∨ (mode ≠ 0x04#8 ∧ window ≠ 0))),
       (15, decide (low ≠ 0 ∧ high ≠ 0 ∧ high < low)),
       (16, decide (1 < stall.toNat ∨ (stall = 0x01#8 ∧ (mode = 0x04#8 ∨ high = 0))))] := by
  have hrateMode : mode.toNat = 4 ↔ mode = 0x04#8 := byte_toNat_eq (by decide)
  have hstallOn : stall.toNat = 1 ↔ stall = 0x01#8 := byte_toNat_eq (by decide)
  have hmode : (decide (mode.toNat < 1) || decide (4 < mode.toNat)) = decide (mode.toNat = 0 ∨ 4 < mode.toNat) := by
    rw [← Bool.decide_or]
    exact decide_eq_decide.2 (or_congr_left Nat.lt_one_iff)
  have hrate : (decide (mode.toNat = 4) && (EdgeSelect.ofCode rate.toNat).isNone) =
      decide (mode = 0x04#8 ∧ (rate.toNat = 0 ∨ 3 < rate.toNat)) := by
    rw [EdgeSelect.ofCode_isNone, ← Bool.decide_and]
    exact decide_eq_decide.2 (and_congr_left' hrateMode)
  have hwindow : (if mode.toNat = 4 then decide (window < 1000) || decide (10000000 < window) else decide (window ≠ 0)) =
      decide ((mode = 0x04#8 ∧ (window < 1000 ∨ 10000000 < window)) ∨ (mode ≠ 0x04#8 ∧ window ≠ 0)) := by
    by_cases hm : mode = 0x04#8
    · rw [if_pos (hrateMode.2 hm), ← Bool.decide_or]
      exact decide_eq_decide.2 (by simp [hm])
    · rw [if_neg (mt hrateMode.1 hm)]
      exact decide_eq_decide.2 (by simp [hm])
  have hlow' : decide (4294967295 < low) = false := decide_eq_false (by omega)
  have hhigh' : decide (4294967295 < high) = false := decide_eq_false (by omega)
  have hreport : decide (255 < report.toNat) = false := decide_eq_false (by have := report.isLt; omega)
  have horder : (decide (low ≠ 0) && decide (high ≠ 0) && decide (high < low)) = decide (low ≠ 0 ∧ high ≠ 0 ∧ high < low) := by
    rw [Bool.and_assoc, ← Bool.decide_and, ← Bool.decide_and]
  have hstall : (decide (1 < stall.toNat) || (decide (stall.toNat = 1) && (decide (mode.toNat = 4) || decide (high = 0)))) =
      decide (1 < stall.toNat ∨ (stall = 0x01#8 ∧ (mode = 0x04#8 ∨ high = 0))) := by
    rw [← Bool.decide_or, ← Bool.decide_and, ← Bool.decide_or]
    exact decide_eq_decide.2 (or_congr_right (and_congr hstallOn (or_congr_left hrateMode)))
  rw [blockValueChecks, h.mode, h.rate, h.window, h.low, h.high, h.stall, h.report, hmode, hrate, hwindow, hlow', hhigh',
    hreport, Bool.false_or, horder, hstall]
  refine firstFailing_append_congr (a := [(11, decide (mode.toNat = 0 ∨ 4 < mode.toNat)),
    (12, decide (mode = 0x04#8 ∧ (rate.toNat = 0 ∨ 3 < rate.toNat))),
    (13, decide ((mode = 0x04#8 ∧ (window < 1000 ∨ 10000000 < window)) ∨ (mode ≠ 0x04#8 ∧ window ≠ 0)))]) fun _ => ?_
  rw [firstFailing_pass]
  refine firstFailing_append_congr (a := [(15, decide (low ≠ 0 ∧ high ≠ 0 ∧ high < low))]) fun _ => ?_
  cases decide (1 < stall.toNat ∨ (stall = 0x01#8 ∧ (mode = 0x04#8 ∨ high = 0))) <;> rfl

end

/-! ### DELAY, TICK and WAVE (R85, R91, R101) -/

theorem delayFields (b1 b2 b3 b4 b5 b6 b7 b8 b9 : Byte) {duration : Nat} (h : duration < 2 ^ 32) :
    field ([b1, b2, b3, b4, b5, b6, b7, b8, b9] ++ beBytes 4 duration) 9 4 = duration :=
  (field_block _ _ _ _ _ _ _ _ _ _ 0 4).trans (field_beBytes_last (by omega))

theorem delayValues {duration : Nat} (h : field payload 9 4 = duration) (hd : duration < 2 ^ 32) :
    blockValueChecks payload .delay = [(10, decide (duration = 0))] := by
  have hlarge : decide (4294967295 < duration) = false := decide_eq_false (by omega)
  rw [blockValueChecks, h, hlarge, Bool.or_false]

theorem tickFields (b1 b2 b3 b4 b5 b6 b7 b8 b9 : Byte) {period limit : Nat} (hperiod : period < 2 ^ 32) (hlimit : limit < 2 ^ 16) :
    field ([b1, b2, b3, b4, b5, b6, b7, b8, b9] ++ (beBytes 4 period ++ beBytes 2 limit)) 9 4 = period ∧
      field ([b1, b2, b3, b4, b5, b6, b7, b8, b9] ++ (beBytes 4 period ++ beBytes 2 limit)) 13 2 = limit :=
  ⟨(field_block _ _ _ _ _ _ _ _ _ _ 0 4).trans (field_beBytes (by omega) _),
    (field_block _ _ _ _ _ _ _ _ _ _ 4 2).trans ((field_skip _ _ (by decide : 4 ≤ 4) 2).trans (field_beBytes_last (by omega)))⟩

theorem tickValues {period limit : Nat} (h : field payload 9 4 = period ∧ field payload 13 2 = limit) (hperiod : period < 2 ^ 32)
    (hlimit : limit < 2 ^ 16) :
    firstFailing (blockValueChecks payload .tick) = firstFailing [(10, decide (period < 10))] := by
  have hlarge : decide (4294967295 < period) = false := decide_eq_false (by omega)
  have hlimit' : decide (65535 < limit) = false := decide_eq_false (by omega)
  rw [blockValueChecks, h.1, h.2, hlarge, Bool.or_false, hlimit']
  exact firstFailing_append_congr (a := [(10, decide (period < 10))]) fun _ => rfl

theorem waveFields (b1 b2 b3 b4 b5 b6 b7 b8 b9 : Byte) {period width limit : Nat} (hperiod : period < 2 ^ 24)
    (hwidth : width < 2 ^ 24) (hlimit : limit < 2 ^ 16) :
    field ([b1, b2, b3, b4, b5, b6, b7, b8, b9] ++ (beBytes 3 period ++ beBytes 3 width ++ beBytes 2 limit)) 9 3 = period ∧
      field ([b1, b2, b3, b4, b5, b6, b7, b8, b9] ++ (beBytes 3 period ++ beBytes 3 width ++ beBytes 2 limit)) 12 3 = width ∧
      field ([b1, b2, b3, b4, b5, b6, b7, b8, b9] ++ (beBytes 3 period ++ beBytes 3 width ++ beBytes 2 limit)) 15 2 = limit := by
  rw [List.append_assoc]
  exact ⟨(field_block _ _ _ _ _ _ _ _ _ _ 0 3).trans (field_beBytes (by omega) _),
    (field_block _ _ _ _ _ _ _ _ _ _ 3 3).trans ((field_skip _ _ (by decide : 3 ≤ 3) 3).trans (field_beBytes (by omega) _)),
    (field_block _ _ _ _ _ _ _ _ _ _ 6 2).trans ((field_skip _ _ (by decide : 3 ≤ 6) 2).trans
      ((field_skip _ _ (by decide : 3 ≤ 3) 2).trans (field_beBytes_last (by omega))))⟩

theorem waveValues {period width limit : Nat}
    (h : field payload 9 3 = period ∧ field payload 12 3 = width ∧ field payload 15 2 = limit) (hperiod : period < 2 ^ 24)
    (hlimit : limit < 2 ^ 16) :
    firstFailing (blockValueChecks payload .wave) =
      firstFailing [(10, decide (period < 10)), (11, decide (width = 0 ∨ period ≤ width))] := by
  have hlarge : decide (16777215 < period) = false := decide_eq_false (by omega)
  have hlimit' : decide (65535 < limit) = false := decide_eq_false (by omega)
  rw [blockValueChecks, h.1, h.2.1, h.2.2, hlarge, Bool.or_false, hlimit', ← Bool.decide_or]
  exact firstFailing_append_congr (a := [(10, decide (period < 10)), (11, decide (width = 0 ∨ period ≤ width))]) fun _ => rfl

/-! ### ECHO (R110) -/

/-- The fields of an ECHO block. -/
structure EchoFields (payload : List Byte) (source edge delay width policy limit : Nat) : Prop where
  source : field payload 9 1 = source
  edge : field payload 10 1 = edge
  delay : field payload 11 3 = delay
  width : field payload 14 2 = width
  policy : field payload 16 1 = policy
  limit : field payload 17 2 = limit

theorem echoFields (b1 b2 b3 b4 b5 b6 b7 b8 b9 source edge policy : Byte) {delay width limit : Nat} (hdelay : delay < 2 ^ 24)
    (hwidth : width < 2 ^ 16) (hlimit : limit < 2 ^ 16) :
    EchoFields ([b1, b2, b3, b4, b5, b6, b7, b8, b9] ++ ([source, edge] ++ beBytes 3 delay ++ beBytes 2 width ++ [policy] ++
      beBytes 2 limit)) source.toNat edge.toNat delay width policy.toNat limit := by
  rw [List.append_assoc, List.append_assoc, List.append_assoc]
  refine ⟨by simp, by simp, ?_, ?_, ?_, ?_⟩
  · exact (field_block _ _ _ _ _ _ _ _ _ _ 2 3).trans
      ((field_behind (by decide : 2 ≤ 2) _ 3).trans (field_beBytes (by omega) _))
  · exact (field_block _ _ _ _ _ _ _ _ _ _ 5 2).trans ((field_behind (by decide : 2 ≤ 5) _ 2).trans
      ((field_skip _ _ (by decide : 3 ≤ 3) 2).trans (field_beBytes (by omega) _)))
  · exact (field_block _ _ _ _ _ _ _ _ _ _ 7 1).trans ((field_behind (by decide : 2 ≤ 7) _ 1).trans
      ((field_skip _ _ (by decide : 3 ≤ 5) 1).trans ((field_skip _ _ (by decide : 2 ≤ 2) 1).trans (field_head _ _))))
  · exact (field_block _ _ _ _ _ _ _ _ _ _ 8 2).trans ((field_behind (by decide : 2 ≤ 8) _ 2).trans
      ((field_skip _ _ (by decide : 3 ≤ 6) 2).trans ((field_skip _ _ (by decide : 2 ≤ 3) 2).trans
        ((field_behind (by decide : 1 ≤ 1) _ 2).trans (field_beBytes_last (by omega))))))

section
variable {source edge policy : Byte} {delay width limit : Nat}

theorem EchoFields.lines {edge delay width policy limit : Nat} (h : EchoFields payload source.toNat edge delay width policy limit) :
    blockLineChecks payload .echo = [(10, decide (16 ≤ source.toNat))] := by rw [blockLineChecks, h.source]

theorem EchoFields.values (h : EchoFields payload source.toNat edge.toNat delay width policy.toNat limit) (hdelay : delay < 2 ^ 24)
    (hwidth : width < 2 ^ 16) (hlimit : limit < 2 ^ 16) :
    firstFailing (blockValueChecks payload .echo) = firstFailing
      [(11, decide (edge ≠ 0x01#8 ∧ edge ≠ 0x02#8)), (13, decide (width = 0)),
       (14, decide (policy.toNat = 0 ∨ 3 < policy.toNat))] := by
  have hedge : (Polarity.ofCode edge.toNat).isNone = decide (edge ≠ 0x01#8 ∧ edge ≠ 0x02#8) := by
    rw [Polarity.ofCode_isNone]
    exact decide_eq_decide.2 (and_congr (byte_toNat_eq (by decide)).not (byte_toNat_eq (by decide)).not)
  have hdelay' : decide (16777215 < delay) = false := decide_eq_false (by omega)
  have hwidth' : decide (65535 < width) = false := decide_eq_false (by omega)
  have hlimit' : decide (65535 < limit) = false := decide_eq_false (by omega)
  rw [blockValueChecks, h.edge, h.delay, h.width, h.policy, h.limit, hedge, hdelay', hwidth', hlimit', Bool.or_false,
    Overlap.ofCode_isNone]
  refine firstFailing_append_congr (a := [(11, decide (edge ≠ 0x01#8 ∧ edge ≠ 0x02#8))]) fun _ => ?_
  rw [firstFailing_pass]
  exact firstFailing_append_congr
    (a := [(13, decide (width = 0)), (14, decide (policy.toNat = 0 ∨ 3 < policy.toNat))]) fun _ => rfl

end

end

end Sys2Proof.Machine
end

section
/-! SUPPORT. R5, R7 and R170: DEFINE refuses by the first check that fails, kind by kind. -/

namespace Sys2Proof.Machine

open Sys2Proof

section
variable {s : State} {f : Frame} {j : JobId} {b1 b2 b3 b4 b5 b6 b7 b8 b9 : Byte} {block : List Byte}
  (htakes : s.Takes f) (hkind : f.kind = 0x02#8) (hpayload : f.payload = [b1, b2, b3, b4, b5, b6, b7, b8, b9] ++ block)
  (hn : b1.toNat = j.val + 1)
include htakes hkind hpayload hn

/-- The checks of a DEFINE whose kind byte names no kind. -/
theorem State.defineRefused_noKind (hk : JobKind.ofCode b2.toNat = none) :
    s.DefineRefused f j (commonLines b3 b4 b8) [(2, true)] := by
  refine State.defineRefused_of_checks htakes hkind hpayload ?_ hn ?_ ?_
  · refine (defineLengthOk_eq b1 b2 b3 b4 b5 b6 b7 b8 b9 block).trans ?_
    rw [hk]
  · refine (congrArg firstFailing (defineLineChecks_eq b1 b2 b3 b4 b5 b6 b7 b8 b9 block)).trans ?_
    rw [hk]
    exact congrArg firstFailing (List.append_nil _)
  · exact defineValueChecks_noKind b1 b2 b3 b4 b5 b6 b7 b8 b9 block hk

/-- The checks of a DEFINE of a kind: the common ones, then those of its block. -/
theorem State.defineRefused_kind {k : JobKind} {lines values : List (Nat × Bool)} {refused : Bool}
    (hk : JobKind.ofCode b2.toNat = some k) (hlength : block.length + 9 = defineLength k)
    (hlines : blockLineChecks ([b1, b2, b3, b4, b5, b6, b7, b8, b9] ++ block) k = lines)
    (hvalues : firstFailing (blockValueChecks ([b1, b2, b3, b4, b5, b6, b7, b8, b9] ++ block) k) = firstFailing values)
    (hrefused : outputRefused k b8.toNat = refused) :
    s.DefineRefused f j (commonLines b3 b4 b8 ++ lines) (commonValues b3 b5 b6 b7 b8 b9 refused ++ values) := by
  refine State.defineRefused_of_checks htakes hkind hpayload ?_ hn ?_ ?_
  · refine (defineLengthOk_eq b1 b2 b3 b4 b5 b6 b7 b8 b9 block).trans ?_
    rw [hk]
    exact decide_eq_true hlength
  · refine (congrArg firstFailing (defineLineChecks_eq b1 b2 b3 b4 b5 b6 b7 b8 b9 block)).trans ?_
    rw [hk, ← hlines]
    rfl
  · refine (defineValueChecks_eq b1 b2 b3 b4 b5 b6 b7 b8 b9 block hk).trans ?_
    rw [hrefused, firstFailing_append, firstFailing_append, hvalues]

end

/-- Settles O22: the length, the job number, then the checks of each kind in the order of R5. -/
theorem defineChecksInOrder : Obligations.DefineChecksInOrder := by
  unfold Obligations.DefineChecksInOrder
  refine fun s f htakes hkind => ⟨fun hshort => defineRow.denies htakes hkind rfl (actDefine_badLength (defineLengthOk_short hshort)),
    fun b1 b2 b3 b4 b5 b6 b7 b8 b9 block hpayload => ⟨fun k hk hlength => ?badLength, fun hlengths hbad => ?badJob, fun j hn =>
      ⟨fun hk => State.defineRefused_noKind htakes hkind hpayload hn hk, ?count, ?measure, ?delay, ?tick, ?wave, ?echo⟩⟩⟩
  case badLength =>
    refine defineRow.denies htakes hkind hpayload (actDefine_badLength ?_)
    refine (defineLengthOk_eq b1 b2 b3 b4 b5 b6 b7 b8 b9 block).trans ?_
    rw [hk]
    rw [hpayload] at hlength
    exact decide_eq_false hlength
  case badJob =>
    refine defineRow.denies htakes hkind hpayload (actDefine_badJob (rest := [b2, b3, b4, b5, b6, b7, b8, b9] ++ block) ?_ hbad)
    refine (defineLengthOk_eq b1 b2 b3 b4 b5 b6 b7 b8 b9 block).trans ?_
    cases hk : JobKind.ofCode b2.toNat with
    | none => rfl
    | some k =>
      have hlength := hlengths k hk
      rw [hpayload] at hlength
      exact decide_eq_true hlength
  case count =>
    rintro source edge width gate level limit step rfl hlimit hstep rfl
    have hfields := countFields b1 0x01#8 b3 b4 b5 b6 b7 b8 b9 source edge width gate level hlimit hstep
    exact State.defineRefused_kind htakes hkind hpayload hn rfl (by simp [defineLength]) hfields.lines
      (hfields.values hlimit hstep) (outputRefused_eq b8 .count)
  case measure =>
    rintro source mode rate window low high stall report rfl hwindow hlow hhigh rfl
    have hfields := measureFields b1 0x02#8 b3 b4 b5 b6 b7 b8 b9 source mode rate stall report hwindow hlow hhigh
    exact State.defineRefused_kind htakes hkind hpayload hn rfl (by simp [defineLength]) hfields.lines
      (hfields.values hlow hhigh) (outputRefused_eq b8 .measure)
  case delay =>
    rintro duration rfl hduration rfl
    have hrefused := State.defineRefused_kind (k := .delay) (lines := []) htakes hkind hpayload hn rfl (by simp [defineLength]) rfl
      (congrArg firstFailing (delayValues (delayFields b1 0x03#8 b3 b4 b5 b6 b7 b8 b9 hduration) hduration))
      (outputRefused_eq b8 .delay)
    rwa [List.append_nil] at hrefused
  case tick =>
    rintro period limit rfl hperiod hlimit rfl
    have hrefused := State.defineRefused_kind (k := .tick) (lines := []) htakes hkind hpayload hn rfl (by simp [defineLength]) rfl
      (tickValues (tickFields b1 0x04#8 b3 b4 b5 b6 b7 b8 b9 hperiod hlimit) hperiod hlimit) (outputRefused_eq b8 .tick)
    rwa [List.append_nil] at hrefused
  case wave =>
    rintro period width limit rfl hperiod hwidth hlimit rfl
    have hrefused := State.defineRefused_kind (k := .wave) (lines := []) htakes hkind hpayload hn rfl (by simp [defineLength]) rfl
      (waveValues (waveFields b1 0x05#8 b3 b4 b5 b6 b7 b8 b9 hperiod hwidth hlimit) hperiod hlimit) (outputRefused_eq b8 .wave)
    rwa [List.append_nil] at hrefused
  case echo =>
    rintro source edge delay width policy limit rfl hdelay hwidth hlimit rfl
    have hfields := echoFields b1 0x06#8 b3 b4 b5 b6 b7 b8 b9 source edge policy hdelay hwidth hlimit
    exact State.defineRefused_kind htakes hkind hpayload hn rfl (by simp [defineLength]) hfields.lines
      (hfields.values hdelay hwidth hlimit) (outputRefused_eq b8 .echo)

end Sys2Proof.Machine
end

section
/-! SUPPORT. R6, R168 and R170: the DEFINE payload of a definition passes every check and gives that definition back. -/

namespace Sys2Proof.Machine

open Sys2Proof

/-! ### Codes and back (R168) -/

theorem inputField_val (i : InId) : inputField (BitVec.ofNat 8 i.val).toNat = i := by
  have hlt : i.val < 256 := by have := i.isLt; omega
  rw [inputField, BitVec.toNat_ofNat, Nat.mod_eq_of_lt hlt]
  exact Fin.ext (Nat.mod_eq_of_lt i.isLt)

theorem input_byte_lt (i : InId) : (BitVec.ofNat 8 i.val).toNat < 16 := by
  have := i.isLt
  rw [BitVec.toNat_ofNat]
  omega

theorem edgeField_code (e : EdgeSelect) : edgeField (BitVec.ofNat 8 e.code).toNat = e := by cases e <;> rfl
theorem polarityField_code (x : Polarity) : polarityField (BitVec.ofNat 8 x.code).toNat = x := by cases x <;> rfl
theorem levelField_code (x : Level) : levelField (BitVec.ofNat 8 (levelCode x)).toNat = x := by cases x <;> rfl
theorem overlapField_code (x : Overlap) : overlapField (BitVec.ofNat 8 x.code).toNat = x := by cases x <;> rfl

/-! ### The common fields (R170) -/

/-- Three bytes that spell a start mode. -/
structure StartModeBytes (m : StartMode) (b3 b4 b5 : Byte) : Prop where
  line : decide (b3 = 0x02#8 ∧ 16 ≤ b4.toNat) = false
  mode : decide (2 < b3.toNat) = false
  polarity : decide (b3 = 0x02#8 ∧ b5 ≠ 0x01#8 ∧ b5 ≠ 0x02#8) = false
  back : ∀ payload, common payload 3 = b3.toNat → common payload 4 = b4.toNat → common payload 5 = b5.toNat →
    definedStartMode payload = m

theorem StartMode.encode_bytes (x : Fill) (m : StartMode) : ∃ b3 b4 b5, m.encode x = [b3, b4, b5] ∧ StartModeBytes m b3 b4 b5 := by
  cases m with
  | immediate =>
    refine ⟨_, _, _, rfl, by simp, rfl, by simp, fun payload h3 _ _ => ?_⟩
    simp [definedStartMode, h3]
  | onLink =>
    refine ⟨_, _, _, rfl, by simp, rfl, by simp, fun payload h3 _ _ => ?_⟩
    simp [definedStartMode, h3]
  | onEdge line polarity =>
    refine ⟨_, _, _, rfl, ?_, rfl, by cases polarity <;> rfl, fun payload h3 h4 h5 => ?_⟩
    · exact decide_eq_false fun h => absurd h.2 (Nat.not_le.2 (input_byte_lt line))
    · have hmode : common payload 3 = 2 := h3
      simp only [definedStartMode, hmode, h4, h5, inputField_val, polarityField_code]

/-- Two bytes that spell an end action. -/
structure EndActionBytes (a : Option EndAction) (b6 b7 : Byte) : Prop where
  action : decide (2 < b6.toNat) = false
  target : decide (b6 ≠ 0x00#8 ∧ (b7 = 0x00#8 ∨ 32 < b7.toNat)) = false
  back : ∀ payload, common payload 6 = b6.toNat → common payload 7 = b7.toNat → definedEndAction payload = a

theorem encodeEndAction_bytes (x : Fill) (a : Option EndAction) :
    ∃ b6 b7, encodeEndAction x a = [b6, b7] ∧ EndActionBytes a b6 b7 := by
  have hnumber (t : JobId) : (BitVec.ofNat 8 (jobNumber t)).toNat = t.val + 1 := jobNumber_byte t
  have htarget (t : JobId) : ¬ (BitVec.ofNat 8 (jobNumber t) = 0x00#8 ∨ 32 < (BitVec.ofNat 8 (jobNumber t)).toNat) := by
    have := t.isLt
    rw [← byte_toNat_eq (by decide), hnumber]
    omega
  have hback (t : JobId) : Fin.ofNat 32 (t.val + 1 - 1) = t := by
    rw [Nat.add_sub_cancel]
    exact Fin.ext (Nat.mod_eq_of_lt t.isLt)
  rcases a with _ | ⟨t⟩ | ⟨t⟩
  · refine ⟨_, _, rfl, rfl, by simp, fun payload h6 _ => ?_⟩
    simp [definedEndAction, h6]
  · refine ⟨_, _, rfl, rfl, decide_eq_false fun h => htarget t h.2, fun payload h6 h7 => ?_⟩
    have haction : common payload 6 = 1 := h6
    simp only [definedEndAction, haction, h7, hnumber, hback]
  · refine ⟨_, _, rfl, rfl, decide_eq_false fun h => htarget t h.2, fun payload h6 h7 => ?_⟩
    have haction : common payload 6 = 2 := h6
    simp only [definedEndAction, haction, h7, hnumber, hback]

/-- Two bytes that spell an output line with its idle level. -/
structure OutputBytes (o : Option OutputUse) (b8 b9 : Byte) : Prop where
  line : decide (8 ≤ b8.toNat ∧ b8 ≠ 0xFF#8) = false
  idle : decide (b8 ≠ 0xFF#8 ∧ 1 < b9.toNat) = false
  none : b8 = 0xFF#8 ↔ o = none
  back : ∀ payload, common payload 8 = b8.toNat → common payload 9 = b9.toNat → definedOutput payload = o

theorem encodeOutput_bytes (x : Fill) (o : Option OutputUse) : ∃ b8 b9, encodeOutput x o = [b8, b9] ∧ OutputBytes o b8 b9 := by
  cases o with
  | none =>
    refine ⟨_, _, rfl, by simp, by simp, by simp, fun payload h8 _ => ?_⟩
    exact if_pos h8
  | some u =>
    have hline : (BitVec.ofNat 8 u.line.val).toNat = u.line.val := by
      have := u.line.isLt
      rw [BitVec.toNat_ofNat]
      omega
    have hlt := u.line.isLt
    have hsome : BitVec.ofNat 8 u.line.val ≠ 0xFF#8 := by
      rw [Ne, ← byte_toNat_eq (by decide), hline]
      omega
    refine ⟨_, _, rfl, decide_eq_false fun h => ?_, decide_eq_false fun h => ?_, ⟨fun h => absurd h hsome, fun h => (nomatch h)⟩,
      fun payload h8 h9 => ?_⟩
    · rw [hline] at h
      exact absurd h.1 (Nat.not_le.2 hlt)
    · cases hl : u.idle <;> rw [hl] at h <;> exact absurd h.2 (by decide)
    · rw [hline] at h8
      rw [definedOutput, if_neg (by rw [h8]; omega), h8, h9, levelField_code]
      exact congrArg some (congrArg₂ OutputUse.mk (Fin.ext (Nat.mod_eq_of_lt hlt)) rfl)

/-! ### The blocks of the kinds (R170) -/

/-- A block that passes the checks of its kind and gives the work back at its start values. -/
structure BlockGives (w : Work) (payload : List Byte) : Prop where
  lines : firstFailing (blockLineChecks payload w.kind) = none
  values : firstFailing (blockValueChecks payload w.kind) = none
  back : definedWork payload w.kind = w.fresh

theorem decide_and_false {p q : Prop} [Decidable p] [Decidable q] (h : p → ¬ q) : decide (p ∧ q) = false :=
  decide_eq_false fun hpq => h hpq.1 hpq.2

section
variable (b1 b2 b3 b4 b5 b6 b7 b8 b9 : Byte) (x : Fill)

theorem encodeGate_bytes (g : Option Gate) : ∃ gate level, encodeGate x g = [gate, level] ∧
    (g = none → gate = 0xFF#8) ∧ ∀ y, g = some y → gate.toNat = y.line.val ∧ gate ≠ 0xFF#8 ∧
      gate = BitVec.ofNat 8 y.line.val ∧ level = BitVec.ofNat 8 (levelCode y.level) := by
  cases g with
  | none => exact ⟨_, _, rfl, fun _ => rfl, fun y h => (nomatch h)⟩
  | some y =>
    have hlt := y.line.isLt
    have hline : (BitVec.ofNat 8 y.line.val).toNat = y.line.val := by
      rw [BitVec.toNat_ofNat]
      omega
    refine ⟨_, _, rfl, fun h => (nomatch h), fun z h => ?_⟩
    obtain rfl := Option.some.inj h
    refine ⟨hline, ?_, rfl, rfl⟩
    rw [Ne, ← byte_toNat_eq (by decide), hline]
    omega

theorem count_blockGives {c : CountParams} {g : CountProgress} (hrange : (Work.count c g).inRange = true) :
    BlockGives (.count c g) ([b1, b2, b3, b4, b5, b6, b7, b8, b9] ++ (Work.count c g).encode x) ∧
      ((Work.count c g).encode x).length + 9 = 20 := by
  simp only [Work.inRange, Bool.and_eq_true, decide_eq_true_eq] at hrange
  obtain ⟨⟨hlimit, hstep⟩, hgateLine⟩ := hrange
  have hlimit' : c.limit < 2 ^ 32 := by
    have hlargest : c.width.largest ≤ 4294967295 := by cases c.width <;> decide
    omega
  have hstep' : c.step < 2 ^ 16 := by omega
  obtain ⟨gate, level, hgate, hnone, hsome⟩ := encodeGate_bytes x c.gate
  have hblock : (Work.count c g).encode x = [BitVec.ofNat 8 c.source.val, BitVec.ofNat 8 c.edge.code,
      if c.width = .w32 then 0x20#8 else 0x10#8, gate, level] ++ beBytes 4 c.limit ++ beBytes 2 c.step := by
    rw [Work.encode, hgate]
    rfl
  have hfields := countFields b1 b2 b3 b4 b5 b6 b7 b8 b9 (BitVec.ofNat 8 c.source.val) (BitVec.ofNat 8 c.edge.code)
    (if c.width = .w32 then 0x20#8 else 0x10#8) gate level hlimit' hstep'
  rw [← hblock] at hfields
  refine ⟨⟨hfields.lines ▸ ?lines, (hfields.values hlimit' hstep').trans ?values, ?back⟩, by rw [hblock]; simp⟩
  case lines =>
    have hsource : decide (16 ≤ (BitVec.ofNat 8 c.source.val).toNat) = false :=
      decide_eq_false (Nat.not_le.2 (input_byte_lt c.source))
    have hgateOk : decide (16 ≤ gate.toNat ∧ gate ≠ 0xFF#8) = false := by
      refine decide_and_false fun hlarge => ?_
      cases hg : c.gate with
      | none => exact not_not.2 (hnone hg)
      | some y =>
        have hlt := y.line.isLt
        rw [(hsome y hg).1] at hlarge
        omega
    exact firstFailing_eq_none.2 (by simp only [List.forall_mem_cons, hsource, hgateOk]; simp)
  case values =>
    have hedge : decide ((BitVec.ofNat 8 c.edge.code).toNat = 0 ∨ 3 < (BitVec.ofNat 8 c.edge.code).toNat) = false := by
      cases c.edge <;> rfl
    have hwidth : decide ((if c.width = .w32 then 0x20#8 else 0x10#8 : Byte) ≠ 0x10#8 ∧
        (if c.width = .w32 then 0x20#8 else 0x10#8 : Byte) ≠ 0x20#8) = false := by cases c.width <;> rfl
    have hlarge : decide ((if c.width = .w32 then 0x20#8 else 0x10#8 : Byte) = 0x10#8 ∧ 65535 < c.limit) = false := by
      refine decide_and_false fun hw => ?_
      cases hwidth : c.width with
      | w16 => rw [hwidth] at hlimit; exact Nat.not_lt.2 hlimit
      | w32 => rw [hwidth] at hw; exact absurd hw (by decide)
    have hgateSource : decide (gate ≠ 0xFF#8 ∧ gate = BitVec.ofNat 8 c.source.val) = false := by
      refine decide_and_false fun hne => ?_
      cases hg : c.gate with
      | none => exact absurd (hnone hg) hne
      | some y =>
        simp only [hg, decide_eq_true_eq] at hgateLine
        intro heq
        have hback := congrArg (fun b : Byte => inputField b.toNat) heq
        simp only [(hsome y hg).2.2.1, inputField_val] at hback
        exact hgateLine hback
    have hgateLevel : decide (gate ≠ 0xFF#8 ∧ 1 < level.toNat) = false := by
      refine decide_and_false fun hne => ?_
      cases hg : c.gate with
      | none => exact absurd (hnone hg) hne
      | some y =>
        rw [(hsome y hg).2.2.2]
        cases y.level <;> decide
    exact firstFailing_eq_none.2 (by simp only [List.forall_mem_cons, hedge, hwidth, hgateSource, hgateLevel, hlarge]; simp)
  case back =>
    have hwidth : (if (if c.width = .w32 then 0x20#8 else 0x10#8 : Byte).toNat = 0x20 then CountWidth.w32 else .w16) = c.width := by
      cases c.width <;> rfl
    have hgateBack : (if gate.toNat = 0xFF then none
        else some { line := inputField gate.toNat, level := levelField level.toNat : Gate }) = c.gate := by
      cases hg : c.gate with
      | none => rw [hnone hg]; rfl
      | some y =>
        obtain ⟨hline, hne, hgateByte, hlevelByte⟩ := hsome y hg
        rw [if_neg (mt (byte_toNat_eq (by decide)).1 hne), hgateByte, hlevelByte, inputField_val, levelField_code]
    simp only [Work.kind, definedWork, hfields.source, hfields.edge, hfields.width, hfields.gate, hfields.level, hfields.limit,
      hfields.step, inputField_val, edgeField_code, hwidth, hgateBack]
    rfl

theorem MeasureMode.encode_bytes (m : MeasureMode) : ∃ mode rate window, m.encode x = [mode, rate] ++ beBytes 4 window ∧
    mode = BitVec.ofNat 8 m.code ∧ (∀ sel length, m = .rate sel length → rate = BitVec.ofNat 8 sel.code ∧ window = length) ∧
    ((∀ sel length, m ≠ .rate sel length) → window = 0) := by
  cases m with
  | period => exact ⟨_, _, _, rfl, rfl, fun _ _ h => (nomatch h), fun _ => rfl⟩
  | high => exact ⟨_, _, _, rfl, rfl, fun _ _ h => (nomatch h), fun _ => rfl⟩
  | low => exact ⟨_, _, _, rfl, rfl, fun _ _ h => (nomatch h), fun _ => rfl⟩
  | rate sel length =>
    refine ⟨_, _, _, rfl, rfl, fun sel' length' h => ?_, fun h => absurd rfl (h sel length)⟩
    obtain ⟨rfl, rfl⟩ := MeasureMode.rate.inj h
    exact ⟨rfl, rfl⟩

theorem measure_blockGives {m : MeasureParams} {g : MeasureProgress} (hrange : (Work.measure m g).inRange = true) :
    BlockGives (.measure m g) ([b1, b2, b3, b4, b5, b6, b7, b8, b9] ++ (Work.measure m g).encode x) ∧
      ((Work.measure m g).encode x).length + 9 = 26 := by
  simp only [Work.inRange, Bool.and_eq_true, decide_eq_true_eq, Bool.or_eq_true] at hrange
  obtain ⟨⟨⟨⟨hlow, hhigh⟩, horder⟩, hreport⟩, hmodeRange⟩ := hrange
  obtain ⟨mode, rate, window, hencode, hmode, hrate, hnoRate⟩ := MeasureMode.encode_bytes x m.mode
  have hwindow : window < 2 ^ 32 := by
    cases hm : m.mode with
    | rate sel length =>
      simp only [hm, Bool.and_eq_true, decide_eq_true_eq] at hmodeRange
      rw [(hrate sel length hm).2]
      omega
    | period => rw [hnoRate fun sel length h => (nomatch hm.symm.trans h)]; decide
    | high => rw [hnoRate fun sel length h => (nomatch hm.symm.trans h)]; decide
    | low => rw [hnoRate fun sel length h => (nomatch hm.symm.trans h)]; decide
  have hlow' : m.lowLimit < 2 ^ 32 := by omega
  have hhigh' : m.highLimit < 2 ^ 32 := by omega
  have hblock : (Work.measure m g).encode x = [BitVec.ofNat 8 m.source.val, mode, rate] ++ beBytes 4 window ++
      beBytes 4 m.lowLimit ++ beBytes 4 m.highLimit ++
      [if m.stall then 0x01#8 else 0x00#8, BitVec.ofNat 8 m.reportInterval] := by
    rw [Work.encode, hencode, beBytes_one]
    simp
  have hfields := measureFields b1 b2 b3 b4 b5 b6 b7 b8 b9 (BitVec.ofNat 8 m.source.val) mode rate
    (if m.stall then 0x01#8 else 0x00#8) (BitVec.ofNat 8 m.reportInterval) hwindow hlow' hhigh'
  rw [← hblock] at hfields
  refine ⟨⟨hfields.lines ▸ ?lines, (hfields.values hlow' hhigh').trans ?values, ?back⟩, by rw [hblock]; simp⟩
  case lines =>
    have hsource : decide (16 ≤ (BitVec.ofNat 8 m.source.val).toNat) = false :=
      decide_eq_false (Nat.not_le.2 (input_byte_lt m.source))
    rw [hsource]
    rfl
  case values =>
    have hcode : decide (mode.toNat = 0 ∨ 4 < mode.toNat) = false := by rw [hmode]; cases m.mode <;> rfl
    have hsel : decide (mode = 0x04#8 ∧ (rate.toNat = 0 ∨ 3 < rate.toNat)) = false := by
      refine decide_and_false fun h4 => ?_
      cases hm : m.mode with
      | rate sel length =>
        rw [(hrate sel length hm).1]
        cases sel <;> decide
      | period => rw [hmode, hm] at h4; exact absurd h4 (by decide)
      | high => rw [hmode, hm] at h4; exact absurd h4 (by decide)
      | low => rw [hmode, hm] at h4; exact absurd h4 (by decide)
    have hlength : decide ((mode = 0x04#8 ∧ (window < 1000 ∨ 10000000 < window)) ∨ (mode ≠ 0x04#8 ∧ window ≠ 0)) = false := by
      refine decide_eq_false ?_
      cases hm : m.mode with
      | rate sel length =>
        simp only [hm, Bool.and_eq_true, decide_eq_true_eq] at hmodeRange
        rw [(hrate sel length hm).2, hmode, hm]
        rintro (⟨-, h⟩ | ⟨h, -⟩)
        · omega
        · exact absurd rfl h
      | period => simp [hnoRate fun sel length h => (nomatch hm.symm.trans h), hmode, hm, MeasureMode.code]
      | high => simp [hnoRate fun sel length h => (nomatch hm.symm.trans h), hmode, hm, MeasureMode.code]
      | low => simp [hnoRate fun sel length h => (nomatch hm.symm.trans h), hmode, hm, MeasureMode.code]
    have hlimits : decide (m.lowLimit ≠ 0 ∧ m.highLimit ≠ 0 ∧ m.highLimit < m.lowLimit) = false := by
      refine decide_eq_false ?_
      rintro ⟨hl, hh, hlt⟩
      rcases horder with (h | h) | h
      · exact hl h
      · exact hh h
      · omega
    have hstall : decide (1 < (if m.stall then 0x01#8 else 0x00#8 : Byte).toNat ∨
        ((if m.stall then 0x01#8 else 0x00#8 : Byte) = 0x01#8 ∧ (mode = 0x04#8 ∨ m.highLimit = 0))) = false := by
      refine decide_eq_false ?_
      cases hs : m.stall with
      | false => simp
      | true =>
        rw [hmode]
        cases hm : m.mode <;> simp_all [MeasureMode.code]
    exact firstFailing_eq_none.2 (by simp only [List.forall_mem_cons, hcode, hsel, hlength, hlimits, hstall]; simp)
  case back =>
    have hreportByte : (BitVec.ofNat 8 m.reportInterval).toNat = m.reportInterval := by
      rw [BitVec.toNat_ofNat]
      omega
    have hmodeBack : measureModeField ([b1, b2, b3, b4, b5, b6, b7, b8, b9] ++ (Work.measure m g).encode x) = m.mode := by
      rw [measureModeField, hfields.mode, hfields.rate, hfields.window, hmode]
      cases hm : m.mode with
      | period => rfl
      | high => rfl
      | low => rfl
      | rate sel length =>
        obtain ⟨hr, hw⟩ := hrate sel length hm
        rw [hr, hw, edgeField_code]
        rfl
    have hstallBack : decide ((if m.stall then 0x01#8 else 0x00#8 : Byte).toNat = 1) = m.stall := by cases m.stall <;> rfl
    simp only [Work.kind, definedWork, hfields.source, hmodeBack, hfields.low, hfields.high, hfields.stall, hfields.report,
      inputField_val, hreportByte, hstallBack]
    rfl

theorem delay_blockGives {k : DelayParams} {g : DelayProgress} (hrange : (Work.delay k g).inRange = true) :
    BlockGives (.delay k g) ([b1, b2, b3, b4, b5, b6, b7, b8, b9] ++ (Work.delay k g).encode x) ∧
      ((Work.delay k g).encode x).length + 9 = 13 := by
  simp only [Work.inRange, Bool.and_eq_true, decide_eq_true_eq] at hrange
  have hfield := delayFields b1 b2 b3 b4 b5 b6 b7 b8 b9 (duration := k.duration) (by omega)
  have hnonzero : decide (k.duration = 0) = false := decide_eq_false (by omega)
  refine ⟨⟨rfl, ?_, ?_⟩, by simp [Work.encode]⟩
  · refine (congrArg firstFailing (delayValues hfield (by omega))).trans ?_
    rw [hnonzero]
    rfl
  · exact congrArg (fun n => Work.delay { duration := n } { remaining := n }) hfield

theorem tick_blockGives {k : TickParams} {g : TickProgress} (hrange : (Work.tick k g).inRange = true) :
    BlockGives (.tick k g) ([b1, b2, b3, b4, b5, b6, b7, b8, b9] ++ (Work.tick k g).encode x) ∧
      ((Work.tick k g).encode x).length + 9 = 15 := by
  simp only [Work.inRange, Bool.and_eq_true, decide_eq_true_eq] at hrange
  have hfields := tickFields b1 b2 b3 b4 b5 b6 b7 b8 b9 (period := k.period) (limit := k.limit) (by omega) (by omega)
  have hten : decide (k.period < 10) = false := decide_eq_false (by omega)
  refine ⟨⟨rfl, ?_, ?_⟩, by simp [Work.encode]⟩
  · refine (tickValues hfields (by omega) (by omega)).trans ?_
    rw [hten]
    rfl
  · exact congrArg₂ (fun n l => Work.tick { period := n, limit := l } { ticksDone := 0#32, remaining := n }) hfields.1 hfields.2

theorem wave_blockGives {v : WaveParams} {g : WaveProgress} (hrange : (Work.wave v g).inRange = true) :
    BlockGives (.wave v g) ([b1, b2, b3, b4, b5, b6, b7, b8, b9] ++ (Work.wave v g).encode x) ∧
      ((Work.wave v g).encode x).length + 9 = 17 := by
  simp only [Work.inRange, Bool.and_eq_true, decide_eq_true_eq] at hrange
  have hfields := waveFields b1 b2 b3 b4 b5 b6 b7 b8 b9 (period := v.period) (width := v.width) (limit := v.limit) (by omega)
    (by omega) (by omega)
  have hten : decide (v.period < 10) = false := decide_eq_false (by omega)
  have hwidth : decide (v.width = 0 ∨ v.period ≤ v.width) = false := decide_eq_false (by omega)
  refine ⟨⟨rfl, ?_, ?_⟩, by simp [Work.encode]⟩
  · refine (waveValues hfields (by omega) (by omega)).trans ?_
    rw [hten, hwidth]
    rfl
  · obtain ⟨hperiod, hwidth', hlimit⟩ := hfields
    have hperiod' : field ([b1, b2, b3, b4, b5, b6, b7, b8, b9] ++ (Work.wave v g).encode x) 9 3 = v.period := hperiod
    have hwidth'' : field ([b1, b2, b3, b4, b5, b6, b7, b8, b9] ++ (Work.wave v g).encode x) 12 3 = v.width := hwidth'
    have hlimit' : field ([b1, b2, b3, b4, b5, b6, b7, b8, b9] ++ (Work.wave v g).encode x) 15 2 = v.limit := hlimit
    simp only [Work.kind, definedWork, hperiod', hwidth'', hlimit']
    rfl

theorem echo_blockGives {e : EchoParams} {g : EchoProgress} (hrange : (Work.echo e g).inRange = true) :
    BlockGives (.echo e g) ([b1, b2, b3, b4, b5, b6, b7, b8, b9] ++ (Work.echo e g).encode x) ∧
      ((Work.echo e g).encode x).length + 9 = 19 := by
  simp only [Work.inRange, Bool.and_eq_true, decide_eq_true_eq] at hrange
  obtain ⟨⟨⟨hdelay, hone⟩, hwidth⟩, hlimit⟩ := hrange
  have hfields := echoFields b1 b2 b3 b4 b5 b6 b7 b8 b9 (BitVec.ofNat 8 e.source.val) (BitVec.ofNat 8 e.edge.code)
    (BitVec.ofNat 8 e.overlap.code) (delay := e.delay) (width := e.width) (limit := e.limit) (by omega) (by omega) (by omega)
  refine ⟨⟨?lines, (hfields.values (by omega) (by omega) (by omega)).trans ?values, ?back⟩, by simp [Work.encode]⟩
  case lines =>
    have hsource : decide (16 ≤ (BitVec.ofNat 8 e.source.val).toNat) = false :=
      decide_eq_false (Nat.not_le.2 (input_byte_lt e.source))
    refine (congrArg firstFailing hfields.lines).trans ?_
    rw [hsource]
    rfl
  case values =>
    have hedge : decide (BitVec.ofNat 8 e.edge.code ≠ 0x01#8 ∧ BitVec.ofNat 8 e.edge.code ≠ 0x02#8) = false := by
      cases e.edge <;> rfl
    have hnonzero : decide (e.width = 0) = false := decide_eq_false (by omega)
    have hpolicy : decide ((BitVec.ofNat 8 e.overlap.code).toNat = 0 ∨ 3 < (BitVec.ofNat 8 e.overlap.code).toNat) = false := by
      cases e.overlap <;> rfl
    rw [hedge, hnonzero, hpolicy]
    rfl
  case back =>
    have hfields' : EchoFields ([b1, b2, b3, b4, b5, b6, b7, b8, b9] ++ (Work.echo e g).encode x)
      (BitVec.ofNat 8 e.source.val).toNat (BitVec.ofNat 8 e.edge.code).toNat e.delay e.width
      (BitVec.ofNat 8 e.overlap.code).toNat e.limit := hfields
    simp only [Work.kind, definedWork, hfields'.source, hfields'.edge, hfields'.delay, hfields'.width, hfields'.policy,
      hfields'.limit, inputField_val, polarityField_code, overlapField_code]
    rfl

/-- The block of every work in range passes its checks and gives the work back. -/
theorem Work.blockGives {w : Work} (hrange : w.inRange = true) :
    BlockGives w ([b1, b2, b3, b4, b5, b6, b7, b8, b9] ++ w.encode x) ∧ (w.encode x).length + 9 = defineLength w.kind := by
  cases w with
  | count c g => exact count_blockGives b1 b2 b3 b4 b5 b6 b7 b8 b9 x hrange
  | measure m g => exact measure_blockGives b1 b2 b3 b4 b5 b6 b7 b8 b9 x hrange
  | delay k g => exact delay_blockGives b1 b2 b3 b4 b5 b6 b7 b8 b9 x hrange
  | tick k g => exact tick_blockGives b1 b2 b3 b4 b5 b6 b7 b8 b9 x hrange
  | wave v g => exact wave_blockGives b1 b2 b3 b4 b5 b6 b7 b8 b9 x hrange
  | echo e g => exact echo_blockGives b1 b2 b3 b4 b5 b6 b7 b8 b9 x hrange

end

/-- A kind takes the output line that an allowed definition has. -/
theorem outputRefused_of_takesOutput {w : Work} {o : Option OutputUse} {b8 b9 : Byte} (h : OutputBytes o b8 b9)
    (htakes : w.takesOutput o = true) : outputRefused w.kind b8.toNat = false := by
  have hnone : b8.toNat = 0xFF ↔ o = none := (byte_toNat_eq (by decide)).trans h.none
  cases w <;> cases o <;> simp_all [outputRefused, Work.kind, Work.takesOutput]

/-! ### The whole payload -/

/-- The DEFINE payload of an allowed definition installs that definition, at its start values. -/
theorem actDefine_encode {p : Part} {j : JobId} {d : Definition} (x : Fill) (hallowed : d.allowed = true)
    (hlive : p.jobs[j].state.live = false) : actDefine p (d.encode x j) =
      (p.setJob j (Job.defined { d with entryTime := 0#48, work := d.work.fresh })).takenSummary j false := by
  obtain ⟨hrange, htakes⟩ := Bool.and_eq_true_iff.1 hallowed
  obtain ⟨b3, b4, b5, hmodeBytes, hmode⟩ := d.startMode.encode_bytes x
  obtain ⟨b6, b7, hactionBytes, haction⟩ := encodeEndAction_bytes x d.endAction
  obtain ⟨b8, b9, houtputBytes, houtput⟩ := encodeOutput_bytes x d.output
  have hpayload : d.encode x j =
      [BitVec.ofNat 8 (jobNumber j), BitVec.ofNat 8 d.work.kind.code, b3, b4, b5, b6, b7, b8, b9] ++ d.work.encode x := by
    rw [Definition.encode, hmodeBytes, hactionBytes, houtputBytes]
    rfl
  obtain ⟨hblock, hlength⟩ := Work.blockGives (BitVec.ofNat 8 (jobNumber j)) (BitVec.ofNat 8 d.work.kind.code) b3 b4 b5 b6 b7 b8
    b9 x hrange
  have hkind : JobKind.ofCode (BitVec.ofNat 8 d.work.kind.code).toNat = some d.work.kind := by cases d.work.kind <;> rfl
  rw [← hpayload] at hblock
  have hlengthOk : defineLengthOk (d.encode x j) = true := by
    rw [hpayload, defineLengthOk_eq, hkind]
    exact decide_eq_true hlength
  have hlines : firstFailing (defineLineChecks (d.encode x j)) = none := by
    have hlines := hblock.lines
    rw [hpayload] at hlines
    rw [hpayload, defineLineChecks_eq, hkind, firstFailing_append, commonLines, hmode.line, houtput.line]
    exact hlines
  have hvalues : firstFailing (defineValueChecks (d.encode x j)) = none := by
    have hvalues := hblock.values
    rw [hpayload] at hvalues
    rw [hpayload, defineValueChecks_eq _ _ _ _ _ _ _ _ _ _ hkind, firstFailing_append, commonValues, hmode.mode, hmode.polarity,
      haction.action, haction.target, outputRefused_of_takesOutput houtput htakes, houtput.idle]
    exact hvalues
  have hback : definitionOf (d.encode x j) d.work.kind = { d with entryTime := 0#48, work := d.work.fresh } := by
    rw [definitionOf, hblock.back, hpayload]
    rw [hmode.back _ (by simp [common]) (by simp [common]) (by simp [common]),
      haction.back _ (by simp [common]) (by simp [common]), houtput.back _ (by simp [common]) (by simp [common])]
  rw [← hback]
  rw [hpayload] at hlengthOk hlines hvalues ⊢
  exact actDefine_taken hlengthOk (jobNumber_byte j) hlines hlive hvalues (by simpa [common] using hkind)

theorem Work.fresh_kind (w : Work) : w.fresh.kind = w.kind := by cases w <;> rfl

/-- The summary of a job that has just been defined (R172). -/
theorem summary_defined (d : Definition) (j : JobId) : (Job.defined d).summary j false =
    [BitVec.ofNat 8 (j.val + 1), 0x01#8, BitVec.ofNat 8 d.work.kind.code, 0x00#8, 0x00#8] ++ List.replicate 18 0x00#8 := by
  simp only [Job.summary, Job.kindCode, Job.defined, beBytes_one]
  rfl

/-- Settles O21: the payload installs the definition that it lays out. -/
theorem defineInstallsEncodedDefinition : Obligations.DefineInstallsEncodedDefinition := by
  unfold Obligations.DefineInstallsEncodedDefinition
  intro s f j d x htakes hkind hpayload hallowed hstate
  have hlive : s.dropFrame.jobs[j].state.live = false := by
    have hstate' : s.dropFrame.jobs[j].state = .free ∨ s.dropFrame.jobs[j].state = .defined ∨
      s.dropFrame.jobs[j].state = .ended := hstate
    rcases hstate' with h | h | h <;> rw [h] <;> rfl
  have hverdict := actDefine_encode x hallowed hlive
  refine ⟨s.dropFrame.setJob j (Job.defined { d with entryTime := 0#48, work := d.work.fresh }), ?_, ?_, fun k hk => ?_, rfl⟩
  · rw [defineRow.answers htakes hkind hpayload hverdict, Part.setJob_summary, summary_defined, Work.fresh_kind]
    rfl
  · exact Part.setJob_jobs_self ..
  · exact Part.setJob_jobs_ne _ _ hk

end Sys2Proof.Machine
end

section
/-! SUPPORT. What is offered, placed, accepted and applied: a report at the queue (R93, R133–R136), an entry in the schedule
(R80, R81), an edge at its watchers (R34, R36), the retransmit timer and the loss policy (R142–R145). -/

namespace Sys2Proof.Machine

open Sys2Proof

/-! ### Reports -/

theorem Part.offer_admitted {p : Part} {j : JobId} {time : Time} {content : ReportContent} (h : p.hasRoom = true) :
    p.offer j time content = (p.enqueue (some j) p.jobs[j].run time p.jobs[j].lost content).setLost j 0 := if_pos h

theorem Part.offer_dropped {p : Part} {j : JobId} {time : Time} {content : ReportContent} (h : ¬ p.hasRoom = true) :
    p.offer j time content = p.setLost j (satSucc 255 p.jobs[j].lost) := if_neg h

theorem ReportEntry.coalesces_iff {e : ReportEntry} {j : JobId} : e.coalesces j = true ↔
    (∃ n m, e.content = .tick n m) ∧ e.job = some j ∧ e.delivery = .new ∧ e.thisStart = true := by
  cases h : e.content <;> simp [ReportEntry.coalesces, h, and_assoc]

theorem ReportEntry.coalesces_eq_false {e : ReportEntry} {j : JobId}
    (h : ∀ n m, e.job = some j → e.delivery = .new → e.thisStart = true → e.content ≠ .tick n m) : e.coalesces j = false := by
  by_contra hc
  obtain ⟨⟨n, m, hcontent⟩, hjob, hdelivery, hstart⟩ := ReportEntry.coalesces_iff.1 (Bool.of_not_eq_false hc)
  exact h n m hjob hdelivery hstart hcontent

theorem ReportEntry.fold_of_tick {e : ReportEntry} {old : BitVec 32} {merged : Nat} (number : BitVec 32) (time : Time)
    (h : e.content = .tick old merged) :
    e.fold number time = { e with time := time, content := .tick number (satSucc 255 merged) } := by
  simp only [ReportEntry.fold, h]

/-- Settles O36: an offered report by the room there is, a tick by the entry that it folds into. -/
theorem reportOffers : Obligations.ReportOffers := by
  intro p j time
  refine ⟨fun content => ⟨fun h => ?_, fun h => ?_⟩, ?_, ?_⟩
  · exact Part.offer_admitted (Part.hasRoom_iff.2 h)
  · exact Part.offer_dropped fun hroom => absurd (Part.hasRoom_iff.1 hroom) (Nat.not_lt.2 h)
  · intro number pre post e old merged hq hjob hnew hstart hcontent hothers
    have he : e.coalesces j = true := ReportEntry.coalesces_iff.2 ⟨⟨old, merged, hcontent⟩, hjob, hnew, hstart⟩
    have hkeep (l : List ReportEntry) (hl : ∀ x ∈ l, x ∈ pre ++ post) :
        l.map (fun x => if x.coalesces j then x.fold number time else x) = l :=
      (List.map_congr_left fun x hx => by simp [ReportEntry.coalesces_eq_false (hothers x (hl x hx))]).trans (List.map_id l)
    have hany : p.reports.queue.any (fun x => x.coalesces j) = true :=
      List.any_eq_true.2 ⟨e, by simp [hq], he⟩
    simp only [Part.offerTick, hany, if_true]
    rw [hq, List.map_append, List.map_cons, hkeep pre fun x hx => List.mem_append_left _ hx,
      hkeep post fun x hx => List.mem_append_right _ hx, if_pos he, ReportEntry.fold_of_tick number time hcontent]
    rfl
  · intro number hnone
    have hany : p.reports.queue.any (fun x => x.coalesces j) = false :=
      List.any_eq_false.2 fun x hx => by simp [ReportEntry.coalesces_eq_false (hnone x hx)]
    simp only [Part.offerTick, hany, if_false, Bool.false_eq_true]

/-! ### The schedule -/

theorem earlier_iff {a b : Time} : earlier a b = true ↔ (b - a).toNat ≠ 0 ∧ (b - a).toNat < 2 ^ 47 := by simp [earlier]

/-- Where `insertEntry` puts an entry. -/
theorem insertEntry_split (e : DeadlineEntry) (l : List DeadlineEntry) : ∃ pre post,
    insertEntry e l = pre ++ e :: post ∧ pre ++ post = l ∧ (∀ x ∈ pre, ¬ earlier e.due x.due = true) ∧
      ∀ x, post.head? = some x → earlier e.due x.due = true := by
  induction l with
  | nil => exact ⟨[], [], rfl, rfl, fun _ h => absurd h List.not_mem_nil, fun _ h => nomatch h⟩
  | cons y ys ih =>
    by_cases hy : earlier e.due y.due = true
    · exact ⟨[], y :: ys, by simp [insertEntry, hy], rfl, fun _ h => absurd h List.not_mem_nil,
        fun x hx => Option.some.inj hx ▸ hy⟩
    · obtain ⟨pre, post, hinsert, hl, hpre, hpost⟩ := ih
      refine ⟨y :: pre, post, by simp [insertEntry, hy, hinsert], by simp [hl], ?_, hpost⟩
      exact List.forall_mem_cons.2 ⟨hy, hpre⟩

/-- Within half the time range of a base, the order of R80 is that of the distances from the base. -/
theorem earlier_iff_of_base {base a b : Time} (ha : (a - base).toNat < 2 ^ 47) (hb : (b - base).toNat < 2 ^ 47) :
    earlier a b = true ↔ (a - base).toNat < (b - base).toNat := by
  have hdiff : b - a = (b - base) - (a - base) := by bv_omega
  rw [earlier_iff, hdiff, BitVec.toNat_sub]
  omega

theorem insertEntry_sorted_of_base {base : Time} {e : DeadlineEntry} {l : List DeadlineEntry}
    (he : (e.due - base).toNat < 2 ^ 47) (hl : ∀ x ∈ l, (x.due - base).toNat < 2 ^ 47)
    (hsorted : l.Pairwise (fun a b => (a.due - base).toNat ≤ (b.due - base).toNat)) :
    (insertEntry e l).Pairwise (fun a b => (a.due - base).toNat ≤ (b.due - base).toNat) := by
  obtain ⟨pre, post, hinsert, rfl, hpre, hpost⟩ := insertEntry_split e l
  obtain ⟨hsortedPre, hsortedPost, hacross⟩ := List.pairwise_append.1 hsorted
  have hbefore : ∀ x ∈ pre, (x.due - base).toNat ≤ (e.due - base).toNat := fun x hx =>
    Nat.le_of_not_lt fun hlt => hpre x hx ((earlier_iff_of_base he (hl x (List.mem_append_left _ hx))).2 hlt)
  have hafter : ∀ x ∈ post, (e.due - base).toNat ≤ (x.due - base).toNat := by
    cases post with
    | nil => exact fun _ h => absurd h List.not_mem_nil
    | cons y ys =>
      have hy := (earlier_iff_of_base he (hl y (by simp))).1 (hpost y rfl)
      exact List.forall_mem_cons.2 ⟨hy.le, fun x hx => hy.le.trans ((List.pairwise_cons.1 hsortedPost).1 x hx)⟩
  rw [hinsert]
  refine List.pairwise_append.2 ⟨hsortedPre, List.pairwise_cons.2 ⟨hafter, hsortedPost⟩, fun x hx => ?_⟩
  exact List.forall_mem_cons.2 ⟨hbefore x hx, hacross x hx⟩

/-- Settles O37, by the place at which an entry is inserted. -/
theorem schedulePlacement : Obligations.SchedulePlacement := by
  intro p j purpose due
  have hplace := Part.place_schedule p j purpose due
  refine ⟨rfl, ?_, fun base hl he hsorted => ?_⟩
  · obtain ⟨pre, post, hinsert, hl, hpre, hpost⟩ :=
      insertEntry_split { due := due, job := j, purpose := purpose } (p.schedule.filter (fun e => decide (e.job ≠ j)))
    exact ⟨pre, post, hplace.trans hinsert, hl, fun x hx => mt earlier_iff.2 (hpre x hx), fun x hx => earlier_iff.1 (hpost x hx)⟩
  · rw [hplace]
    exact insertEntry_sorted_of_base he (fun x hx => hl x (List.mem_of_mem_filter hx)) (hsorted.sublist List.filter_sublist)

/-! ### Acceptance -/

theorem Work.source_iff {w : Work} {i : InId} : w.source = some i ↔
    (∃ c g, w = .count c g ∧ c.source = i) ∨ (∃ m g, w = .measure m g ∧ m.source = i) ∨ ∃ x g, w = .echo x g ∧ x.source = i := by
  cases w <;> simp [Work.source]

/-- Which jobs watch a line (R36). -/
theorem Job.watches_iff {b : Job} {i : InId} : b.watches i = true ↔ ∃ d, b.defn = some d ∧
    ((b.state = .armed ∧ ∃ polarity, d.startMode = .onEdge i polarity) ∨
      ((b.state = .running ∨ b.state = .held ∨ b.state = .stopping) ∧ d.work.source = some i)) := by
  cases hd : b.defn with
  | none => simp [Job.watches, hd]
  | some d =>
    cases hstate : b.state <;> simp [Job.watches, hd, hstate]
    cases d.startMode <;> simp

theorem polarityTo_eq (l : Level) : polarityTo l = if l = .high then .rising else .falling := by cases l <;> rfl

theorem Part.mem_watchers {p : Part} {i : InId} {j : JobId} : j ∈ p.watchers i ↔ p.jobs[j].watches i = true := by
  simp [Part.watchers]

/-- Settles O39, by the list of the watchers. -/
theorem acceptanceFormsEdge : Obligations.AcceptanceFormsEdge := by
  intro p i c
  refine ⟨rfl, rfl, p.watchers i, (List.nodup_finRange 32).filter _, ?_, fun j => ?_⟩
  · rw [← polarityTo_eq]
    rfl
  · simp only [Part.mem_watchers, Job.watches_iff, Work.source_iff]

/-! ### The retransmit timer and the loss policy -/

theorem Part.timerDue_of_timer {p : Part} {t : Time} (h : p.reports.timer = some t) :
    p.timerDue = (p.clocked && reached p.time t) := by
  simp only [Part.timerDue, h]

theorem Part.timerStep_idle {p : Part} (h : p.timerDue = false) : p.timerStep = p := by simp [Part.timerStep, h]

theorem Part.timerStep_due {p : Part} {t : Time} (htimer : p.reports.timer = some t) (hdue : p.timerDue = true) :
    p.timerStep = ({ p with reports := p.reports.expire t } : Part).arbitrate := by
  simp [Part.timerStep, hdue, htimer]

theorem lossDeliveriesOf_nodup (policy : LossPolicy) (t : Time) : (lossDeliveriesOf policy t).Nodup :=
  (List.nodup_finRange 32).map fun _ _ h => congrArg LossDelivery.job h

/-- Settles O51, by the timer and the retry count. -/
theorem retransmitTimerExpires : Obligations.RetransmitTimerExpires := by
  refine ⟨fun s h => ?_, fun s t hclock htimer => ⟨fun h => ?_, fun h hretry => ?_, fun h hretry => ?_⟩⟩
  · have hdue : s.timerDue = false := by simp only [Part.timerDue, h]
    exact congrArg (fun p => Host.Outcome.next (s.withPart p)) (Part.timerStep_idle hdue)
  all_goals have hdue := (Part.timerDue_of_timer htimer).trans (by rw [hclock, h])
  · exact congrArg (fun p => Host.Outcome.next (s.withPart p)) (Part.timerStep_idle hdue)
  · refine congrArg (fun p => Host.Outcome.next (s.withPart p)) ((Part.timerStep_due htimer hdue).trans ?_)
    rw [Reporter.expire, if_pos hretry]
    rfl
  · refine ⟨lossDeliveriesOf s.reports.policy t, by simp [lossDeliveriesOf], lossDeliveriesOf_nodup _ _,
      fun x hx => ?_, congrArg (fun p => Host.Outcome.next (s.withPart p)) ((Part.timerStep_due htimer hdue).trans ?_)⟩
    · obtain ⟨_, _, rfl⟩ := List.mem_map.1 hx
      exact ⟨rfl, rfl⟩
    · rw [Reporter.expire, if_neg (Nat.not_le.2 hretry)]

/-- The first entry with a property, and the list without it. -/
theorem find?_erase_split {α : Type} [DecidableEq α] {f : α → Bool} {pre post : List α} {x : α} (hpre : ∀ y ∈ pre, f y = false)
    (hx : f x = true) : (pre ++ x :: post).find? f = some x ∧ (pre ++ x :: post).erase x = pre ++ post := by
  have hmem : x ∉ pre := fun h => by simp [hpre x h] at hx
  refine ⟨?_, by simp [List.erase_append_right _ hmem]⟩
  rw [List.find?_append, List.find?_eq_none.2 fun y hy => by simp [hpre y hy]]
  simp [hx]

theorem Part.lossStep_of_taken {p : Part} {j : JobId} {d : LossDelivery} {pre post : List LossDelivery} (hjob : d.job = j)
    (h : p.reports.lossDeliveries = pre ++ d :: post) (hpre : ∀ x ∈ pre, x.job ≠ j) :
    p.lossStep j = (Part.applyPolicy { p with reports := { p.reports with lossDeliveries := pre ++ post } } j d.policy
      d.lostAt).arbitrate := by
  obtain ⟨hfind, herase⟩ := find?_erase_split (f := fun x : LossDelivery => decide (x.job = j)) (post := post)
    (fun x hx => decide_eq_false (hpre x hx)) (decide_eq_true hjob)
  simp only [Part.lossStep, Part.lossDeliveryTo, h, hfind, Part.removeLossDelivery, herase]

theorem Part.lossStep_of_none {p : Part} {j : JobId} (h : ∀ x ∈ p.reports.lossDeliveries, x.job ≠ j) : p.lossStep j = p := by
  have hfind : p.lossDeliveryTo j = none := List.find?_eq_none.2 fun x hx => by simp [h x hx]
  simp only [Part.lossStep, hfind]

section
variable {p : Part} {j : JobId} {lostAt : Time}

theorem Part.applyPolicy_idle {policy : LossPolicy} (h : policy = .carryOn ∨ p.jobs[j].state.live = false ∨
    (policy = .holdAll ∧ p.jobs[j].state = .held)) : p.applyPolicy j policy lostAt = p := by
  rw [Part.applyPolicy.eq_def]
  generalize p.jobs[j].state = st at h
  cases policy <;> cases st <;> simp_all [JobState.live]

theorem Part.applyPolicy_hold (h : p.jobs[j].state = .running) : p.applyPolicy j .holdAll lostAt = p.holdJob j := by
  simp only [Part.applyPolicy, h]

theorem Part.applyPolicy_ends (h : p.jobs[j].state = .armed ∨ p.jobs[j].state = .stopping) :
    p.applyPolicy j .holdAll lostAt = p.endJob j .linkLost lostAt 0 := by
  obtain h | h := h <;> simp only [Part.applyPolicy, h]

theorem Part.applyPolicy_stop (h : p.jobs[j].state.live = true) :
    p.applyPolicy j .stopAll lostAt = p.endJob j .linkLost lostAt 0 := by
  rw [Part.applyPolicy.eq_def]
  generalize p.jobs[j].state = st at h
  cases st <;> simp_all [JobState.live]

end

theorem exec_lossPolicy (s : State) (j : JobId) : exec (.lossPolicy (j.val + 1)) s = .next (s.withPart (s.toPart.lossStep j)) := by
  simp only [exec, execLossPolicy, jobOfNumber_succ]
  rfl

/-- Settles O52, by the oldest application outstanding and the state of its job. -/
theorem lossPolicyActsByState : Obligations.LossPolicyActsByState := by
  refine ⟨fun s j policy lostAt pre post p h hpre hp => ?_, fun s j h => ?_⟩
  · rw [exec_lossPolicy, Part.lossStep_of_taken rfl h hpre, ← hp]
    have hjob : p.jobs[j] = s.jobs[j] := by rw [hp]
    rw [← hjob]
    refine ⟨fun h => ?_, ?_, ?_, ?_⟩
    · rw [Part.applyPolicy_idle h]
    · rintro rfl hrun
      rw [Part.applyPolicy_hold hrun]
    · rintro rfl hends
      rw [Part.applyPolicy_ends hends]
    · rintro rfl hlive
      rw [Part.applyPolicy_stop hlive]
  · rw [exec_lossPolicy, Part.lossStep_of_none h]
    rfl

end Sys2Proof.Machine
end

section
/-! SUPPORT. The delivery of an edge (R11, R21, R36), what it does to its job by the job's state, and how a COUNT job counts it
(R48–R53). -/

namespace Sys2Proof.Machine

open Sys2Proof

/-! ### The delivery -/

theorem exec_edgeDelivery (s : State) (j : JobId) :
    exec (.edgeDelivery (j.val + 1)) s = .next (s.withPart (s.toPart.deliverTo j)) := by
  simp only [exec, execEdgeDelivery, jobOfNumber_succ]
  rfl

theorem Part.deliverTo_of_none {p : Part} {j : JobId} (h : ∀ x ∈ p.deliveries, x.job ≠ j) : p.deliverTo j = p := by
  have hfind : p.deliveryTo j = none := List.find?_eq_none.2 fun x hx => by simp [h x hx]
  simp only [Part.deliverTo, hfind]

theorem Part.deliverTo_of_taken {p : Part} {j : JobId} {d : Delivery} {pre post : List Delivery} (hjob : d.job = j)
    (h : p.deliveries = pre ++ d :: post) (hpre : ∀ x ∈ pre, x.job ≠ j) :
    p.deliverTo j = (Part.takeEdge { p with deliveries := pre ++ post } j d.acceptedIn d.edge).arbitrate := by
  obtain ⟨hfind, herase⟩ := find?_erase_split (f := fun x : Delivery => decide (x.job = j)) (post := post)
    (fun x hx => decide_eq_false (hpre x hx)) (decide_eq_true hjob)
  simp only [Part.deliverTo, Part.deliveryTo, h, hfind, Part.removeDelivery, herase]

section
variable {s : State} {j : JobId} {d : Definition} {e : Edge} {st : JobState} {p : Part}

theorem State.TakesEdge.exec_eq (h : s.TakesEdge j d e st p) :
    exec (.edgeDelivery (j.val + 1)) s = .next (s.withPart (p.takeEdge j st e).arbitrate) := by
  obtain ⟨pre, post, hsplit, hpre, -, rfl⟩ := h
  rw [exec_edgeDelivery, Part.deliverTo_of_taken rfl hsplit hpre]

theorem State.TakesEdge.part_eq (h : s.TakesEdge j d e st p) : p = { s.toPart with deliveries := p.deliveries } := by
  obtain ⟨pre, post, -, -, -, rfl⟩ := h
  rfl

theorem State.TakesEdge.jobs (h : s.TakesEdge j d e st p) : p.jobs = s.jobs := by
  rw [h.part_eq]

theorem State.TakesEdge.inputs (h : s.TakesEdge j d e st p) : p.inputs = s.inputs := by
  rw [h.part_eq]

theorem State.TakesEdge.cells (h : s.TakesEdge j d e st p) : p.cells = s.cells := by
  rw [h.part_eq]

theorem State.TakesEdge.defn (h : s.TakesEdge j d e st p) : p.jobs[j].defn = some d := by
  obtain ⟨pre, post, -, -, hd, rfl⟩ := h
  exact hd

end

/-! ### What the job does with it -/

section
variable {p : Part} {j : JobId} {d : Definition} {st : JobState} {e : Edge}

theorem Part.takeEdge_arming (hd : p.jobs[j].defn = some d) (hstate : p.jobs[j].state = .armed)
    (h : d.startMode = .onEdge e.line e.polarity) : p.takeEdge j st e = p.enterRunning j e.acceptance := by
  simp only [Part.takeEdge, hd, hstate, h, and_self, if_true]

theorem Part.takeEdge_armed (hd : p.jobs[j].defn = some d) (hstate : p.jobs[j].state = .armed)
    (h : d.startMode ≠ .onEdge e.line e.polarity) : p.takeEdge j st e = p := by
  simp only [Part.takeEdge, hd, hstate]
  cases hmode : d.startMode with
  | immediate => rfl
  | onLink => rfl
  | onEdge line polarity =>
    refine if_neg ?_
    rintro ⟨rfl, rfl⟩
    exact h hmode

theorem Part.takeEdge_elsewhere (hstate : p.jobs[j].state = .held ∨ p.jobs[j].state = .stopping ∨ p.jobs[j].state = .ended ∨
    p.jobs[j].state = .defined) : p.takeEdge j st e = p := by
  cases hd : p.jobs[j].defn with
  | none => simp only [Part.takeEdge, hd]
  | some d => obtain h | h | h | h := hstate <;> simp only [Part.takeEdge, hd, h]

theorem Part.takeEdge_running (hd : p.jobs[j].defn = some d) (hstate : p.jobs[j].state = .running)
    (h : d.work.source = some e.line) : p.takeEdge j st e = p.sourceEdge j d.work st e := by
  simp only [Part.takeEdge, hd, hstate, if_pos h]

theorem Part.takeEdge_otherLine (hd : p.jobs[j].defn = some d) (hstate : p.jobs[j].state = .running)
    (h : d.work.source ≠ some e.line) : p.takeEdge j st e = p := by
  simp only [Part.takeEdge, hd, hstate, if_neg h]

end

/-- Settles O40, by the state of the job that takes the edge. -/
theorem edgeArmsOrPassesBy : Obligations.EdgeArmsOrPassesBy := by
  refine ⟨fun s j d e st p h => ?_, fun s j h => ?_⟩
  · rw [h.exec_eq]
    have hd := h.defn
    have hjob : p.jobs[j] = s.jobs[j] := by rw [h.jobs]
    rw [← hjob]
    refine ⟨fun hstate hmode => ?_, fun hstate hmode => ?_, fun hstate => ?_, fun hstate hcount hmeasure hecho => ?_⟩
    · rw [Part.takeEdge_arming hd hstate hmode]
    · rw [Part.takeEdge_armed hd hstate hmode]
    · rw [Part.takeEdge_elsewhere hstate]
    · have hsource : d.work.source ≠ some e.line := fun hs => by
        obtain ⟨c, g, hw, hline⟩ | ⟨m, g, hw, hline⟩ | ⟨x, g, hw, hline⟩ := Work.source_iff.1 hs
        exacts [hcount c g hw hline, hmeasure m g hw hline, hecho x g hw hline]
      rw [Part.takeEdge_otherLine hd hstate hsource]
  · rw [exec_edgeDelivery, Part.deliverTo_of_none h]
    rfl

/-! ### Counting in the cells (R24) -/

section
variable {p : Part} {j : JobId}

theorem Part.countOf_one {c : CellId} (h : p.jobs[j].cells = [c]) : p.countOf j = p.cells[c].count.toNat := by
  simp only [Part.countOf, h]

theorem Part.countOf_two {low high : CellId} (h : p.jobs[j].cells = [low, high]) :
    p.countOf j = p.cells[low].count.toNat + 65536 * p.cells[high].count.toNat := by
  simp only [Part.countOf, h]

theorem Part.countUp_one {c : CellId} (h : p.jobs[j].cells = [c]) :
    p.countUp j = p.setCell c { p.cells[c] with count := p.cells[c].count + 1#16 } := by
  simp only [Part.countUp, h]

theorem Part.countUp_low {low high : CellId} (h : p.jobs[j].cells = [low, high]) (hlow : p.cells[low].count ≠ 0xFFFF#16) :
    p.countUp j = p.setCell low { p.cells[low] with count := p.cells[low].count + 1#16 } := by
  simp only [Part.countUp, h, if_neg hlow]

theorem Part.countUp_carry {low high : CellId} (h : p.jobs[j].cells = [low, high]) (hne : high ≠ low)
    (hlow : p.cells[low].count = 0xFFFF#16) : p.countUp j =
      (p.setCell low { p.cells[low] with count := 0#16 }).setCell high
        { p.cells[high] with count := p.cells[high].count + 1#16 } := by
  have hcell : (p.setCell low { p.cells[low] with count := 0#16 }).cells[high] = p.cells[high] := Part.setCell_cells_ne p _ hne
  rw [← hcell]
  simp only [Part.countUp, h, if_pos hlow]

/-- Which of two parts differ in the counts of some cells only. -/
def Part.CountsIn (p q : Part) (cs : List CellId) : Prop :=
  { q with cells := p.cells } = p ∧ (∀ k : CellId, q.cells[k] = { p.cells[k] with count := q.cells[k].count }) ∧
    ∀ k : CellId, k ∉ cs → q.cells[k] = p.cells[k]

theorem Part.countsIn_setCell {q : Part} {cs : List CellId} {c : CellId} (n : BitVec 16) (h : p.CountsIn q cs) (hc : c ∈ cs) :
    p.CountsIn (q.setCell c { q.cells[c] with count := n }) cs := by
  obtain ⟨hrest, hcounts, hothers⟩ := h
  refine ⟨hrest, fun k => ?_, fun k hk => ?_⟩
  · by_cases hkc : k = c
    · subst hkc
      simp only [Fin.getElem_fin, Part.setCell_cells_self]
      exact congrArg (fun x : Cell => { x with count := n }) (hcounts k)
    · simp only [Fin.getElem_fin, Part.setCell_cells_ne q _ hkc]
      exact hcounts k
  · have hkc : k ≠ c := fun h => hk (h ▸ hc)
    simp only [Fin.getElem_fin, Part.setCell_cells_ne q _ hkc]
    exact hothers k hk

theorem Part.countsIn_refl (cs : List CellId) : p.CountsIn p cs := ⟨rfl, fun _ => rfl, fun _ _ => rfl⟩

theorem Part.countUp_countsIn : p.CountsIn (p.countUp j) p.jobs[j].cells := by
  unfold Part.countUp
  split
  · exact countsIn_refl _
  · exact countsIn_setCell _ (countsIn_refl _) (by simp_all)
  · dsimp only
    split
    · exact countsIn_setCell _ (countsIn_setCell _ (countsIn_refl _) (by simp_all)) (by simp_all)
    · exact countsIn_setCell _ (countsIn_refl _) (by simp_all)

/-- Below the largest count, counting up adds 1 (R24, R50). -/
theorem Part.countOf_countUp {width : CountWidth} (hlength : p.jobs[j].cells.length = (if width = .w16 then 1 else 2))
    (hdistinct : p.jobs[j].cells.Nodup) (h : p.countOf j ≠ width.largest) : (p.countUp j).countOf j = p.countOf j + 1 := by
  cases width with
  | w16 =>
    obtain ⟨c, hcells⟩ := List.length_eq_one_iff.1 (hlength.trans (if_pos rfl))
    rw [Part.countOf_one hcells] at h ⊢
    rw [Part.countUp_one hcells, Part.countOf_one (c := c) (by exact hcells)]
    simp only [Fin.getElem_fin, Part.setCell_cells_self, CountWidth.largest, BitVec.toNat_add] at h ⊢
    simp only [BitVec.toNat_ofNat]
    omega
  | w32 =>
    obtain ⟨low, high, hcells⟩ := List.length_eq_two.1 (hlength.trans (if_neg (by decide)))
    have hne : low ≠ high := by
      rw [hcells] at hdistinct
      simpa using hdistinct
    rw [Part.countOf_two hcells] at h ⊢
    by_cases hlow : p.cells[low].count = 0xFFFF#16
    · rw [Part.countUp_carry hcells hne.symm hlow, Part.countOf_two (low := low) (high := high) (by exact hcells)]
      simp only [Fin.getElem_fin, Part.setCell_cells_self, Part.setCell_cells_ne _ _ hne, CountWidth.largest,
        BitVec.toNat_add] at h hlow ⊢
      simp only [hlow, BitVec.toNat_ofNat] at h ⊢
      omega
    · have hlt : p.cells[low].count.toNat ≠ 65535 := fun h => hlow (BitVec.eq_of_toNat_eq h)
      rw [Part.countUp_low hcells hlow, Part.countOf_two (low := low) (high := high) (by exact hcells)]
      simp only [Fin.getElem_fin, Part.setCell_cells_self, Part.setCell_cells_ne _ _ hne.symm, BitVec.toNat_add] at hlt ⊢
      simp only [BitVec.toNat_ofNat]
      omega

end

/-! ### COUNT (R48–R53) -/

theorem EdgeSelect.takes_eq_false {sel : EdgeSelect} {pol : Polarity}
    (h : (sel = .rising ∧ pol = .falling) ∨ (sel = .falling ∧ pol = .rising)) : sel.takes pol = false := by
  obtain ⟨rfl, rfl⟩ | ⟨rfl, rfl⟩ := h <;> rfl

theorem EdgeSelect.takes_eq_true {sel : EdgeSelect} {pol : Polarity}
    (h : sel = .both ∨ (sel = .rising ∧ pol = .rising) ∨ (sel = .falling ∧ pol = .falling)) : sel.takes pol = true := by
  obtain rfl | ⟨rfl, rfl⟩ | ⟨rfl, rfl⟩ := h <;> rfl

theorem CountWidth.largest_eq (w : CountWidth) : w.largest = if w = .w16 then 65535 else 4294967295 := by cases w <;> rfl

theorem Part.gateOpen_of_level {p : Part} {c : CountParams} (h : ∀ x : Gate, c.gate = some x → p.inputs[x.line].filtered = x.level) :
    p.gateOpen c = true := by
  cases hg : c.gate with
  | none => simp only [Part.gateOpen, hg]
  | some x => simp only [Part.gateOpen, hg, h x hg, decide_true]

section
variable {p : Part} {j : JobId} {c : CountParams} {g : CountProgress} {st : JobState} {e : Edge}

theorem Part.takeCountEdge_unselected (h : (st.countsEdges && c.edge.takes e.polarity) = false) :
    p.takeCountEdge j c g st e = p := by
  simp only [Part.takeCountEdge, h, Bool.false_eq_true, if_false]

theorem JobState.countsEdges_eq_true (harmed : st ≠ .armed) (hheld : st ≠ .held) : st.countsEdges = true := by
  cases st <;> simp_all [JobState.countsEdges]

theorem Part.takeCountEdge_selected (hst : st.countsEdges = true) (h : c.edge.takes e.polarity = true) :
    p.takeCountEdge j c g st e = if p.gateOpen c then p.countEdge j c e
      else p.setWork j (.count c { g with blocked := satSucc max32 g.blocked }) := by
  simp only [Part.takeCountEdge, hst, h, Bool.and_self, if_true]

theorem Part.gateOpen_of_other {x : Gate} (hg : c.gate = some x) (h : p.inputs[x.line].filtered ≠ x.level) :
    p.gateOpen c = false := by
  simp only [Part.gateOpen, hg, decide_eq_false h]

theorem Part.countEdge_overflow (h : p.countOf j = c.width.largest) : p.countEdge j c e = p.endJob j .overflow e.edgeTime 0 :=
  if_pos h

theorem Part.countEdge_counts (h : p.countOf j ≠ c.width.largest) : p.countEdge j c e =
    if c.limit ≠ 0 ∧ (p.countUp j).countOf j = c.limit then (p.countUp j).endJob j .limitReached e.edgeTime 0
    else if c.step ≠ 0 ∧ (p.countUp j).countOf j % c.step = 0 then
      (p.countUp j).offer j e.edgeTime (.progress ((p.countUp j).countOf j))
    else p.countUp j := if_neg h

end

theorem Part.countOf_congr {p q : Part} {j : JobId} (hjobs : q.jobs = p.jobs) (hcells : q.cells = p.cells) :
    q.countOf j = p.countOf j := by
  unfold Part.countOf
  rw [hjobs, hcells]

/-- Settles O42, by the state at the acceptance, the polarity, the gate and the count. -/
theorem countJobCountsEdge : Obligations.CountJobCountsEdge := by
  intro s j d e st p c g h hstate hw hline hlength hdistinct
  have hjob : p.jobs[j] = s.jobs[j] := by rw [h.jobs]
  have hcount : p.countOf j = s.countOf j := Part.countOf_congr h.jobs h.cells
  have hsource : d.work.source = some e.line := by rw [hw, ← hline]; rfl
  have htake : p.sourceEdge j d.work st e = p.takeCountEdge j c g st e := by rw [hw]; rfl
  rw [h.exec_eq, Part.takeEdge_running h.defn (hjob ▸ hstate) hsource, htake, ← hcount, ← h.inputs, ← CountWidth.largest_eq]
  rw [← hjob] at hlength hdistinct
  refine ⟨fun hst => ?_, fun hother => ?_, fun harmed hheld hedge => ?_⟩
  · rw [Part.takeCountEdge_unselected (by obtain rfl | rfl := hst <;> rfl)]
  · rw [Part.takeCountEdge_unselected (by rw [EdgeSelect.takes_eq_false hother, Bool.and_false])]
  · rw [Part.takeCountEdge_selected (JobState.countsEdges_eq_true harmed hheld) (EdgeSelect.takes_eq_true hedge)]
    refine ⟨fun x hg hlevel => ?_, fun hlevel => ⟨fun hlargest => ?_, fun hlargest => ⟨p.countUp j, ?_⟩⟩⟩
    · rw [Part.gateOpen_of_other hg hlevel]
      rfl
    · rw [Part.gateOpen_of_level hlevel, if_pos rfl, Part.countEdge_overflow hlargest]
    · have hup := Part.countOf_countUp hlength hdistinct hlargest
      obtain ⟨hrest, hcounts, hothers⟩ := p.countUp_countsIn (j := j)
      refine ⟨hup, hrest, hcounts, hothers, ?_⟩
      rw [Part.gateOpen_of_level hlevel, if_pos rfl, Part.countEdge_counts hlargest, hup]

end Sys2Proof.Machine
end

section
/-! SUPPORT. What an edge of its source line does to a RUNNING MEASURE job (R63–R70) and to a RUNNING ECHO job (R112, R113). -/

namespace Sys2Proof.Machine

open Sys2Proof

/-! ### Samples and intervals -/

section
variable {p : Part} {j : JobId} {m : MeasureParams} {g : MeasureProgress} {t : Time} {v : Nat} {e : Edge}

theorem MeasureProgress.accept_eq (g : MeasureProgress) (m : MeasureParams) (v : Nat) : g.accept m v = g.withSample m v := by
  have hsince : (if m.reportInterval = 0 then g.sinceReport else if g.reportsNext m then 0 else g.sinceReport + 1) =
      if m.reportInterval = 0 then g.sinceReport
      else if g.sinceReport + 1 < m.reportInterval then g.sinceReport + 1 else 0 := by
    by_cases hzero : m.reportInterval = 0
    · rw [if_pos hzero, if_pos hzero]
    · rw [if_neg hzero, if_neg hzero]
      by_cases hnext : g.sinceReport + 1 < m.reportInterval
      · simp [MeasureProgress.reportsNext, hzero, hnext]
      · simp [MeasureProgress.reportsNext, hzero, hnext, Nat.not_lt.1 hnext]
  rw [MeasureProgress.accept, MeasureProgress.withSample, hsince]
  cases g.minimum <;> cases g.maximum <;> rfl

theorem Part.acceptSample_eq : p.acceptSample j m g v t = p.withSample j m g v t := by
  simp only [Part.acceptSample, Part.withSample, MeasureProgress.accept_eq, MeasureProgress.reportsNext, Bool.and_eq_true,
    decide_eq_true_eq]

theorem Part.openInterval_eq : p.openInterval j m g t = p.withInterval j m g t := by
  by_cases h : m.stall = true <;> simp [Part.openInterval, Part.withInterval, h, stallDue]

theorem MeasureParams.breach_high (hlimit : m.highLimit ≠ 0) (h : m.highLimit < v) : m.breach v = some .highExceeded :=
  if_pos ⟨hlimit, h⟩

theorem MeasureParams.breach_low (hhigh : m.highLimit = 0 ∨ v ≤ m.highLimit) (hlimit : m.lowLimit ≠ 0) (h : v < m.lowLimit) :
    m.breach v = some .lowExceeded :=
  (if_neg fun hbreach => by omega).trans (if_pos ⟨hlimit, h⟩)

theorem MeasureParams.breach_none (hhigh : m.highLimit = 0 ∨ v ≤ m.highLimit) (hlow : m.lowLimit = 0 ∨ m.lowLimit ≤ v) :
    m.breach v = none :=
  (if_neg fun hbreach => by omega).trans (if_neg fun hbreach => by omega)

/-! ### Edges by mode -/

theorem Part.opens (h : (m.mode = .period ∧ e.polarity = .rising) ∨ (m.mode = .high ∧ e.polarity = .rising) ∨
    (m.mode = .low ∧ e.polarity = .falling)) (hg : g.interval = none) :
    p.takeMeasureEdge j m g e = p.withInterval j m g e.edgeTime := by
  rw [← Part.openInterval_eq]
  obtain ⟨hm, hp⟩ | ⟨hm, hp⟩ | ⟨hm, hp⟩ := h <;>
    simp only [Part.takeMeasureEdge, Part.periodEdge, Part.openingEdge, hm, hp, hg]

theorem Part.closes_none (h : (m.mode = .high ∧ e.polarity = .falling) ∨ (m.mode = .low ∧ e.polarity = .rising))
    (hg : g.interval = none) : p.takeMeasureEdge j m g e = p := by
  obtain ⟨hm, hp⟩ | ⟨hm, hp⟩ := h <;> simp only [Part.takeMeasureEdge, Part.closingEdge, hm, hp, hg]

/-- The job's part at a closing edge: of a HIGH or LOW job the stall entry is gone (R63, R64). -/
def Part.ClosesAt (p : Part) (j : JobId) (m : MeasureParams) (e : Edge) (r : Part) : Prop :=
  (m.mode = .period ∧ e.polarity = .rising ∧ r = p) ∨
    (((m.mode = .high ∧ e.polarity = .falling) ∨ (m.mode = .low ∧ e.polarity = .rising)) ∧ r = p.unschedule j)

theorem Part.closes_breach {i : OpenInterval} {r : Part} {cause : EndCause} (h : p.ClosesAt j m e r) (hg : g.interval = some i)
    (hb : m.breach (i.sample e.edgeTime) = some cause) :
    p.takeMeasureEdge j m g e = r.endJob j cause e.edgeTime (i.sample e.edgeTime) := by
  obtain ⟨hm, hp, rfl⟩ | ⟨⟨hm, hp⟩ | ⟨hm, hp⟩, rfl⟩ := h <;>
    simp only [Part.takeMeasureEdge, Part.periodEdge, Part.closingEdge, hm, hp, hg, hb]

theorem Part.closes_period {i : OpenInterval} {r : Part} (h : p.ClosesAt j m e r) (hm : m.mode = .period)
    (hg : g.interval = some i) (hb : m.breach (i.sample e.edgeTime) = none) :
    p.takeMeasureEdge j m g e = (r.withSample j m g (i.sample e.edgeTime) e.edgeTime).withInterval j m
      (g.withSample m (i.sample e.edgeTime)) e.edgeTime := by
  obtain ⟨-, hp, rfl⟩ | ⟨⟨hm', -⟩ | ⟨hm', -⟩, -⟩ := h
  · rw [← Part.openInterval_eq, ← Part.acceptSample_eq, ← MeasureProgress.accept_eq]
    simp only [Part.takeMeasureEdge, Part.periodEdge, hm, hp, hg, hb]
  all_goals exact nomatch hm.symm.trans hm'

theorem Part.closes_other {i : OpenInterval} {r : Part} (h : p.ClosesAt j m e r) (hm : m.mode ≠ .period)
    (hg : g.interval = some i) (hb : m.breach (i.sample e.edgeTime) = none) :
    p.takeMeasureEdge j m g e = r.withSample j m { g with interval := none } (i.sample e.edgeTime) e.edgeTime := by
  rw [← Part.acceptSample_eq]
  obtain ⟨hm', -⟩ | ⟨⟨hm, hp⟩ | ⟨hm, hp⟩, rfl⟩ := h
  · exact absurd hm' hm
  all_goals simp only [Part.takeMeasureEdge, Part.closingEdge, hm, hp, hg, hb]

theorem Part.takeMeasureEdge_period_falling (hm : m.mode = .period) (hp : e.polarity = .falling) :
    p.takeMeasureEdge j m g e = p := by
  simp only [Part.takeMeasureEdge, hm, hp]

theorem Part.takeMeasureEdge_rate {sel : EdgeSelect} {window : Nat} (hm : m.mode = .rate sel window) :
    p.takeMeasureEdge j m g e = p.windowEdge j sel e := by
  simp only [Part.takeMeasureEdge, hm]

theorem Part.windowEdge_unselected {sel : EdgeSelect} (h : sel.takes e.polarity = false) : p.windowEdge j sel e = p := by
  simp only [Part.windowEdge, h, Bool.false_eq_true, if_false]

theorem Part.windowEdge_overflow {sel : EdgeSelect} (h : sel.takes e.polarity = true) (hcount : p.countOf j = 65535) :
    p.windowEdge j sel e = p.endJob j .overflow e.edgeTime 0 := by
  simp only [Part.windowEdge, h, hcount, if_true]

theorem Part.windowEdge_counts {sel : EdgeSelect} (h : sel.takes e.polarity = true) (hcount : p.countOf j ≠ 65535) :
    p.windowEdge j sel e = p.countUp j := by
  simp only [Part.windowEdge, h, hcount, if_true, if_false]

end

/-- Settles O43, by the mode and the polarity of the edge. -/
theorem measureJobTakesEdge : Obligations.MeasureJobTakesEdge := by
  intro s j d e st p m g h hstate hw hline
  have hjob : p.jobs[j] = s.jobs[j] := by rw [h.jobs]
  have hsource : d.work.source = some e.line := by rw [hw, ← hline]; rfl
  have htake : p.sourceEdge j d.work st e = p.takeMeasureEdge j m g e := by rw [hw]; rfl
  rw [h.exec_eq, Part.takeEdge_running h.defn (hjob ▸ hstate) hsource, htake]
  refine ⟨fun hm hp => ?_, fun hopens hg => ?_, fun hcloses hg => ?_, fun i v r hg hv hcloses => ?_, fun sel window hm => ?_⟩
  · rw [Part.takeMeasureEdge_period_falling hm hp]
  · rw [Part.opens hopens hg]
  · rw [Part.closes_none hcloses hg]
  · obtain rfl : v = i.sample e.edgeTime := hv
    refine ⟨fun hlimit hover => ?_, fun hhigh hlimit hunder => ?_, fun hhigh hlow => ⟨fun hm => ?_, fun hm => ?_⟩⟩
    · rw [Part.closes_breach hcloses hg (MeasureParams.breach_high hlimit hover)]
    · rw [Part.closes_breach hcloses hg (MeasureParams.breach_low hhigh hlimit hunder)]
    · rw [Part.closes_period hcloses hm hg (MeasureParams.breach_none hhigh hlow)]
    · rw [Part.closes_other hcloses hm hg (MeasureParams.breach_none hhigh hlow)]
  · rw [Part.takeMeasureEdge_rate hm]
    refine ⟨fun hother => ?_, fun hedge c hcells => ?_⟩
    · rw [Part.windowEdge_unselected (EdgeSelect.takes_eq_false hother)]
    · have htakes := EdgeSelect.takes_eq_true hedge
      rw [← hjob] at hcells
      rw [← h.cells]
      have hcount := Part.countOf_one hcells
      refine ⟨fun hfull => ?_, fun hfree => ?_⟩
      · rw [Part.windowEdge_overflow htakes (by rw [hcount, hfull]; rfl)]
      · have hne : p.countOf j ≠ 65535 := fun h => hfree (BitVec.eq_of_toNat_eq (hcount.symm.trans h))
        rw [Part.windowEdge_counts htakes hne, Part.countUp_one hcells]

/-! ### ECHO (R112, R113) -/

section
variable {p : Part} {j : JobId} {x : EchoParams} {g : EchoProgress} {e : Edge}

theorem EchoProgress.previousEnd_append {init : List PendingPulse} {last : PendingPulse}
    (h : g.pendingList = init ++ [last]) : g.previousEnd = some (plus last.due last.width) := by
  simp only [EchoProgress.previousEnd, h, List.getLast?_concat]

theorem EchoProgress.previousEnd_nil (h : g.pendingList = []) : g.previousEnd = g.pulse.map (fun u => u.endTime) := by
  simp only [EchoProgress.previousEnd, h, List.getLast?_nil]

theorem earlier_self (t : Time) : earlier t t = false := by simp [earlier]

theorem echoDueTime_eq : echoDueTime x g e =
    if earlier (x.ownDue e) (g.previousEnd.getD (x.ownDue e)) then g.previousEnd.getD (x.ownDue e) else x.ownDue e := by
  cases h : g.previousEnd <;> simp [echoDueTime, laterOf, h]

theorem echoSlips_eq : echoSlips x g e = earlier (x.ownDue e) (g.previousEnd.getD (x.ownDue e)) := by
  cases h : g.previousEnd <;> simp [echoSlips, h, earlier_self]

theorem satAdd32_one (n : Nat) : satAdd32 n 1 = min 4294967295 (n + 1) := rfl

theorem Part.joinEcho_eq : p.joinEcho j x g e = p.withEcho j x g e g.previousEnd := by
  simp only [Part.joinEcho, Part.withEcho, echoDueTime_eq, echoSlips_eq, satAdd32_one, List.isEmpty_iff]
  rfl

theorem Part.takeEchoEdge_other (h : e.polarity ≠ x.edge) : p.takeEchoEdge j x g e = p := if_neg h

theorem Part.takeEchoEdge_selected (h : e.polarity = x.edge) : p.takeEchoEdge j x g e = p.overlapEcho j x g e := if_pos h

theorem Part.overlapEcho_joins (h : (x.overlap = .queue ∧ g.pendingList.length < 8) ∨ (x.overlap = .replace ∧ g.pendingList = []) ∨
    (x.overlap = .ignore ∧ g.pendingList = [] ∧ g.pulse = none)) : p.overlapEcho j x g e = p.joinEcho j x g e := by
  obtain ⟨ho, h⟩ | ⟨ho, h⟩ | ⟨ho, h, hpulse⟩ := h <;> simp [Part.overlapEcho, *]

theorem Part.overlapEcho_misses (h : (x.overlap = .queue ∧ 8 ≤ g.pendingList.length) ∨
    (x.overlap = .ignore ∧ (g.pendingList ≠ [] ∨ g.pulse ≠ none))) : p.overlapEcho j x g e = p.missEcho j x g := by
  obtain ⟨ho, h⟩ | ⟨ho, h⟩ := h
  · simp only [Part.overlapEcho, ho, if_neg (Nat.not_lt.2 h)]
  · have hbusy : (g.pendingList.isEmpty && g.pulse.isNone) = false := by
      rw [Bool.and_eq_false_iff]
      exact h.imp (fun h => by simpa using h) (fun h => by simpa [Option.isSome_iff_ne_none] using h)
    simp only [Part.overlapEcho, ho, hbusy, Bool.false_eq_true, if_false]

theorem Part.overlapEcho_replaces (ho : x.overlap = .replace) (h : g.pendingList ≠ []) : p.overlapEcho j x g e =
    (p.unschedule j).joinEcho j x { g with pendingList := [], missed := satAdd32 g.missed 1 } e := by
  simp only [Part.overlapEcho, ho, List.isEmpty_iff, if_neg h]

end

/-- Settles O44, by the polarity of the edge and the overlap policy. -/
theorem echoJobTakesEdge : Obligations.EchoJobTakesEdge := by
  intro s j d e st p x g h hstate hw hline
  have hjob : p.jobs[j] = s.jobs[j] := by rw [h.jobs]
  have hsource : d.work.source = some e.line := by rw [hw, ← hline]; rfl
  have htake : p.sourceEdge j d.work st e = p.takeEchoEdge j x g e := by rw [hw]; rfl
  rw [h.exec_eq, Part.takeEdge_running h.defn (hjob ▸ hstate) hsource, htake]
  refine ⟨fun hother => ?_, fun hedge => ?_⟩
  · rw [Part.takeEchoEdge_other hother]
  · rw [Part.takeEchoEdge_selected hedge]
    refine ⟨fun before hlast hnil hjoins => ?_, fun hmisses => ?_, fun hreplace hpending => ?_⟩
    · have hbefore : before = g.previousEnd := by
        obtain hempty | ⟨init, last, hsplit⟩ := g.pendingList.eq_nil_or_concat'
        · rw [hnil hempty, EchoProgress.previousEnd_nil hempty]
        · rw [hlast init last hsplit, EchoProgress.previousEnd_append hsplit]
      rw [Part.overlapEcho_joins hjoins, Part.joinEcho_eq, hbefore]
    · rw [Part.overlapEcho_misses hmisses]
      rfl
    · rw [Part.overlapEcho_replaces hreplace hpending, Part.joinEcho_eq, EchoProgress.previousEnd_nil rfl, satAdd32_one]

end Sys2Proof.Machine
end

section
/-! SUPPORT. The delivery of deadline entries (R83): EXPIRY and STALL (R87, R71), TICK (R92–R97), WINDOW (R66–R68). -/

namespace Sys2Proof.Machine

open Sys2Proof

/-! ### Which entry is delivered (R83) -/

theorem Part.dueFor_eq_none {p : Part} {purpose : Purpose} (h : p.schedule = [] ∨ ∃ e rest, p.schedule = e :: rest ∧
    (e.purpose ≠ purpose ∨ reached p.time e.due = false)) : p.dueFor purpose = none := by
  obtain h | ⟨e, rest, h, hpurpose | hlater⟩ := h
  · simp only [Part.dueFor, Part.dueEntry, h]
  · by_cases hdue : (p.clocked && reached p.time e.due) = true <;>
      simp [Part.dueFor, Part.dueEntry, h, hdue, hpurpose]
  · simp [Part.dueFor, Part.dueEntry, h, hlater]

theorem Part.deliverDue_idle {p : Part} {purpose : Purpose} (h : p.dueFor purpose = none) (act : Part → JobId → Time → Part) :
    p.deliverDue purpose act = p := by
  simp only [Part.deliverDue, h]

/-- What a row of `deadlineRows` does, by the purpose of its entries. -/
def Part.deadlineStep (p : Part) : Purpose → Part
  | .expiry => p.deliverDue .expiry Part.takeExpiry
  | .tick => p.deliverDue .tick Part.takeTick
  | .stall => p.deliverDue .stall Part.takeStall
  | .window => p.deliverDue .window Part.takeWindow
  | .echoDue => p.deliverDue .echoDue Part.takeEchoDue

theorem exec_deadlineRow (s : State) (r : Instr × Purpose) (h : r ∈ deadlineRows) :
    exec r.1 s = .next (s.withPart (s.toPart.deadlineStep r.2)) := by
  simp only [deadlineRows, List.mem_cons, List.not_mem_nil, or_false] at h
  obtain rfl | rfl | rfl | rfl | rfl := h <;> rfl

theorem Part.deadlineStep_idle {p : Part} {purpose : Purpose} (h : p.dueFor purpose = none) : p.deadlineStep purpose = p := by
  cases purpose <;> exact Part.deliverDue_idle h _

section
variable {p : Part} {j : JobId} {due : Time}

theorem Part.takeExpiry_of_working (h : p.jobs[j].state.working = true) :
    p.takeExpiry j due = p.endJob j .expired due 0 := if_pos h

theorem Part.takeStall_of_working (h : p.jobs[j].state.working = true) :
    p.takeStall j due = p.endJob j .stall due 0 := if_pos h

end

theorem JobState.working_of {st : JobState} (h : st = .running ∨ st = .stopping) : st.working = true := by
  obtain rfl | rfl := h <;> rfl

/-- Settles O45, by the head of the schedule and its purpose. -/
theorem deadlinesEndDelayAndStall : Obligations.DeadlinesEndDelayAndStall := by
  refine ⟨fun s r hr hidle => ?_, fun s e d p h hstate => ?_⟩
  · rw [exec_deadlineRow s r hr, Part.deadlineStep_idle (Part.dueFor_eq_none hidle)]
    rfl
  · have hworks : p.jobs[e.job].state.working = true := JobState.working_of (h.jobs_eq ▸ hstate)
    have hdeliver := Part.deliverDue_of_fallsDue h
    refine ⟨fun hpurpose => ?_, fun hpurpose => ?_⟩ <;> rw [hpurpose] at hdeliver
    · rw [← Part.takeExpiry_of_working hworks, ← hdeliver Part.takeExpiry]
      rfl
    · rw [← Part.takeStall_of_working hworks, ← hdeliver Part.takeStall]
      rfl

/-! ### TICK -/

section
variable {p : Part} {j : JobId} {k : TickParams} {g : TickProgress} {due : Time}

theorem Part.offer_staged (t : JobId) (time : Time) (content : ReportContent) :
    (p.offer j time content).jobs[t].staged = p.jobs[t].staged := by
  have hlost (q : Part) (hq : q.jobs = p.jobs) (lost : Nat) : (q.setLost j lost).jobs[t].staged = p.jobs[t].staged := by
    by_cases ht : t = j
    · subst ht
      simp [hq]
    · simp only [Fin.getElem_fin, Part.setLost_jobs_ne q lost ht, hq]
  by_cases hroom : p.hasRoom = true
  · rw [Part.offer_admitted hroom]
    exact hlost _ rfl _
  · rw [Part.offer_dropped hroom]
    exact hlost _ rfl _

theorem Part.offerTick_staged (t : JobId) (number : BitVec 32) (time : Time) :
    (p.offerTick j number time).jobs[t].staged = p.jobs[t].staged := by
  unfold Part.offerTick
  split
  · rfl
  · exact Part.offer_staged t time _

theorem Part.setWork_staged (t : JobId) (w : Work) : (p.setWork j w).jobs[t].staged = p.jobs[t].staged := by
  by_cases ht : t = j
  · subst ht
    simp
  · simp only [Fin.getElem_fin, Part.setWork_jobs_ne p w ht]

theorem Part.nextTick_unstaged (h : p.jobs[j].staged = none) : p.nextTick j k g due = p.place j .tick (plus due k.period) := by
  simp only [Part.nextTick, h]

theorem Part.nextTick_staged {period : Nat} (h : p.jobs[j].staged = some (.period period)) : p.nextTick j k g due =
    ((p.setWork j (.tick { k with period := period } g)).setStaged j none).place j .tick (plus due period) := by
  simp only [Part.nextTick, h]

theorem Part.runningTick_limit (hlimit : k.limit ≠ 0) (hat : g.ticked.ticksDone.toNat = k.limit) :
    p.runningTick j k g due = (p.setWork j (.tick k g.ticked)).endJob j .limitReached due 0 := if_pos ⟨hlimit, hat⟩

theorem Part.runningTick_below (h : k.limit = 0 ∨ g.ticked.ticksDone.toNat ≠ k.limit) : p.runningTick j k g due =
    ((p.setWork j (.tick k g.ticked)).offerTick j g.ticked.ticksDone due).nextTick j k g.ticked due :=
  if_neg fun hlimit => h.elim hlimit.1 (· hlimit.2)

theorem Part.takeTick_running (hstate : p.jobs[j].state = .running) (hw : p.workOf j = some (.tick k g)) :
    p.takeTick j due = p.runningTick j k g due := by
  simp only [Part.takeTick, hstate, hw]

theorem Part.takeTick_stopping (hstate : p.jobs[j].state = .stopping) (hw : p.workOf j = some (.tick k g)) :
    p.takeTick j due = (p.setWork j (.tick k g.ticked)).endJob j .hostStop due 0 := by
  simp only [Part.takeTick, hstate, hw]

end

/-- Settles O46, by the state of the job and its tick limit. -/
theorem tickIsDelivered : Obligations.TickIsDelivered := by
  rintro s e d p k g g' h hpurpose hw rfl
  have hjob : p.jobs[e.job] = s.jobs[e.job] := by rw [h.jobs_eq]
  have hwork : p.workOf e.job = some (.tick k g) := hw ▸ h.workOf_eq
  have hexec : exec .tick s = .next (s.withPart (p.takeTick e.job e.due).arbitrate) := by
    rw [← Part.deliverDue_of_fallsDue h Part.takeTick, hpurpose]
    rfl
  rw [hexec, ← hjob]
  refine ⟨fun hstate => ?_, fun hstate => ?_⟩
  · rw [Part.takeTick_running hstate hwork]
    refine ⟨fun hlimit hat => ?_, fun hbelow => ⟨_, rfl, fun hstaged => ?_, fun period hstaged => ?_⟩⟩
    · rw [Part.runningTick_limit hlimit hat]
      rfl
    all_goals
      rw [← Part.setWork_staged (j := e.job) e.job (.tick k g.ticked),
        ← Part.offerTick_staged (j := e.job) e.job g.ticked.ticksDone e.due] at hstaged
      rw [Part.runningTick_below hbelow]
    · rw [Part.nextTick_unstaged hstaged]
      rfl
    · rw [Part.nextTick_staged hstaged]
      rfl
  · rw [Part.takeTick_stopping hstate hwork]
    rfl

/-! ### WINDOW -/

section
variable {p : Part} {j : JobId} {m : MeasureParams} {g : MeasureProgress} {v : Nat} {t : Time}

theorem Part.setWork_cellsOf (k : JobId) (w : Work) : (p.setWork j w).jobs[k].cells = p.jobs[k].cells := by
  by_cases hk : k = j
  · subst hk
    simp
  · simp only [Fin.getElem_fin, Part.setWork_jobs_ne p w hk]

theorem Part.offer_cellsOf (k : JobId) (time : Time) (content : ReportContent) :
    (p.offer j time content).jobs[k].cells = p.jobs[k].cells := by
  have hlost (q : Part) (hq : q.jobs = p.jobs) (lost : Nat) : (q.setLost j lost).jobs[k].cells = p.jobs[k].cells := by
    by_cases hk : k = j
    · subst hk
      simp [hq]
    · simp only [Fin.getElem_fin, Part.setLost_jobs_ne q lost hk, hq]
  by_cases hroom : p.hasRoom = true
  · rw [Part.offer_admitted hroom]
    exact hlost _ rfl _
  · rw [Part.offer_dropped hroom]
    exact hlost _ rfl _

theorem Part.withSample_cells : (p.withSample j m g v t).cells = p.cells := by
  unfold Part.withSample
  split
  · simp
  · rfl

theorem Part.withSample_cellsOf (k : JobId) : (p.withSample j m g v t).jobs[k].cells = p.jobs[k].cells := by
  unfold Part.withSample
  split
  · exact (Part.offer_cellsOf k t _).trans (Part.setWork_cellsOf k _)
  · exact Part.setWork_cellsOf k _

theorem Part.zeroCount_one {c : CellId} (h : p.jobs[j].cells = [c]) :
    p.zeroCount j = p.setCell c { p.cells[c] with count := 0#16 } := by
  simp only [Part.zeroCount, h]

theorem Part.beginMeasure_rate {sel : EdgeSelect} {window : Nat} (hm : m.mode = .rate sel window) : p.beginMeasure j m g t =
    ((p.setWork j (.measure m { g with windowStart := some t })).zeroCount j).place j .window (plus t window) := by
  simp only [Part.beginMeasure, hm]

theorem Part.closeWindow_breach {cause : EndCause} (h : m.breach v = some cause) :
    p.closeWindow j m g v t = p.endJob j cause t v := by
  simp only [Part.closeWindow, h]

theorem Part.closeWindow_accepted (h : m.breach v = none) :
    p.closeWindow j m g v t = (p.withSample j m g v t).beginMeasure j m (g.withSample m v) t := by
  simp only [Part.closeWindow, h, Part.acceptSample_eq, MeasureProgress.accept_eq]

theorem Part.takeWindow_running (hstate : p.jobs[j].state = .running) (hw : p.workOf j = some (.measure m g)) :
    p.takeWindow j t = p.closeWindow j m g (p.countOf j) t := by
  simp only [Part.takeWindow, hstate, hw]

end

/-- Settles O47, by what the limits say of the sample. -/
theorem windowEndFormsSample : Obligations.WindowEndFormsSample := by
  rintro s e d p m g sel window c _ h hpurpose hstate hw hm hcells rfl
  have hjob : p.jobs[e.job] = s.jobs[e.job] := by rw [h.jobs_eq]
  have hpcells : p.cells = s.cells := by
    obtain ⟨-, -, -, rest, -, rfl⟩ := h
    rfl
  rw [← hjob] at hstate hcells
  rw [← hpcells]
  have hexec : exec .windowEnd s = .next (s.withPart (p.closeWindow e.job m g p.cells[c].count.toNat e.due).arbitrate) := by
    rw [← Part.countOf_one hcells, ← Part.takeWindow_running hstate (hw ▸ h.workOf_eq),
      ← Part.deliverDue_of_fallsDue h Part.takeWindow, hpurpose]
    rfl
  rw [hexec]
  refine ⟨fun hlimit hover => ?_, fun hhigh hlimit hunder => ?_, fun hhigh hlow => ?_⟩
  · rw [Part.closeWindow_breach (MeasureParams.breach_high hlimit hover)]
  · rw [Part.closeWindow_breach (MeasureParams.breach_low hhigh hlimit hunder)]
  · rw [Part.closeWindow_accepted (MeasureParams.breach_none hhigh hlow), Part.beginMeasure_rate hm,
      Part.zeroCount_one (c := c) ((Part.setWork_cellsOf _ _).trans ((Part.withSample_cellsOf _).trans hcells))]
    simp only [Part.setWork_cells, Part.withSample_cells]

end Sys2Proof.Machine
end

section
/-! SUPPORT. The cell events of WAVE and ECHO jobs (R100–R103, R115): when each is due, and what it does. -/

namespace Sys2Proof.Machine

open Sys2Proof

/-! ### Which cell event is due (R100) -/

theorem JobState.working_iff {st : JobState} : st.working = true ↔ st = .running ∨ st = .stopping := by
  cases st <;> simp [JobState.working]

theorem Part.workOf_iff {p : Part} {j : JobId} {w : Work} : p.workOf j = some w ↔ ∃ d, p.jobs[j].defn = some d ∧ d.work = w := by
  simp [Part.workOf_eq_map]

theorem Part.phaseOf_iff {p : Part} {j : JobId} {ph : CellPhase} :
    p.phaseOf j = some ph ↔ ∃ c more, p.jobs[j].cells = c :: more ∧ p.cells[c].phase = some ph := by
  cases h : p.jobs[j].cells with
  | nil => simp only [Part.phaseOf, h]; simp
  | cons c more => simp only [Part.phaseOf, h]; simp

theorem State.times_iff {s : State} {j : JobId} {d : Definition} {ph : CellPhase} : s.Times j d ph ↔
    s.clocked = true ∧ s.jobs[j].state.working = true ∧ s.jobs[j].defn = some d ∧ s.phaseOf j = some ph := by
  rw [State.Times, JobState.working_iff, Part.phaseOf_iff]

theorem Part.phaseDue_iff {p : Part} {j : JobId} {left : Nat} {ph : CellPhase} : p.phaseDue j left = some ph ↔
    p.phaseOf j = some ph ∧ p.jobs[j].state.working = true ∧ p.clocked = true ∧ left = 0 ∧
      reached p.time ph.endTime = true := by
  cases h : p.phaseOf j with
  | none => simp [Part.phaseDue, h]
  | some ph' =>
    simp only [Part.phaseDue, h, Option.ite_none_right_eq_some, Bool.and_eq_true, decide_eq_true_eq, Option.some.injEq]
    constructor
    · rintro ⟨⟨⟨⟨hworks, hclock⟩, hleft⟩, hreached⟩, rfl⟩
      exact ⟨rfl, hworks, hclock, hleft, hreached⟩
    · rintro ⟨rfl, hworks, hclock, hleft, hreached⟩
      exact ⟨⟨⟨⟨hworks, hclock⟩, hleft⟩, hreached⟩, rfl⟩

section
variable {s : State} {j : JobId}

theorem State.wavePhaseDue_iff {phase : WavePhase} {v : WaveParams} {g : WaveProgress} {t : Time} :
    s.wavePhaseDue j phase = some (v, g, t) ↔ ∃ d ph, s.Times j d ph ∧ d.work = .wave v g ∧ g.phase = some phase ∧
      g.turnsLeft = 0 ∧ reached s.time ph.endTime = true ∧ t = ph.endTime := by
  constructor
  · intro h
    obtain ⟨hwork, -⟩ := Part.wavePhaseDue_some h
    obtain ⟨d, hd, hw⟩ := Part.workOf_iff.1 hwork
    simp only [Part.wavePhaseDue, hwork, Option.ite_none_right_eq_some, Option.map_eq_some_iff, Prod.mk.injEq, true_and] at h
    obtain ⟨hphase, ph, hdue, rfl⟩ := h
    obtain ⟨hof, hworks, hclock, hleft, hreached⟩ := Part.phaseDue_iff.1 hdue
    exact ⟨d, ph, State.times_iff.2 ⟨hclock, hworks, hd, hof⟩, hw, hphase, hleft, hreached, rfl⟩
  · rintro ⟨d, ph, htimes, hw, hphase, hleft, hreached, rfl⟩
    obtain ⟨hclock, hworks, hd, hof⟩ := State.times_iff.1 htimes
    have hdue : s.phaseDue j g.turnsLeft = some ph := Part.phaseDue_iff.2 ⟨hof, hworks, hclock, hleft, hreached⟩
    simp only [Part.wavePhaseDue, Part.workOf_iff.2 ⟨d, hd, hw⟩, hphase, hdue, if_true, Option.map_some]

theorem State.pulseDue_iff {x : EchoParams} {g : EchoProgress} {t : Time} :
    s.pulseDue j = some (x, g, t) ↔ ∃ d ph, s.Times j d ph ∧ d.work = .echo x g ∧ g.pulse ≠ none ∧
      reached s.time ph.endTime = true ∧ t = ph.endTime := by
  constructor
  · intro h
    obtain ⟨hwork, -⟩ := Part.pulseDue_some h
    obtain ⟨d, hd, hw⟩ := Part.workOf_iff.1 hwork
    simp only [Part.pulseDue, hwork, Option.ite_none_right_eq_some, Option.map_eq_some_iff, Prod.mk.injEq, true_and] at h
    obtain ⟨hpulse, ph, hdue, rfl⟩ := h
    obtain ⟨hof, hworks, hclock, -, hreached⟩ := Part.phaseDue_iff.1 hdue
    exact ⟨d, ph, State.times_iff.2 ⟨hclock, hworks, hd, hof⟩, hw, Option.isSome_iff_ne_none.1 hpulse, hreached, rfl⟩
  · rintro ⟨d, ph, htimes, hw, hpulse, hreached, rfl⟩
    obtain ⟨hclock, hworks, hd, hof⟩ := State.times_iff.1 htimes
    have hdue : s.phaseDue j 0 = some ph := Part.phaseDue_iff.2 ⟨hof, hworks, hclock, rfl, hreached⟩
    simp only [Part.pulseDue, Part.workOf_iff.2 ⟨d, hd, hw⟩, Option.isSome_iff_ne_none.2 hpulse, hdue, if_true, Option.map_some]

theorem State.turnDue_iff {v : WaveParams} {g : WaveProgress} : s.turnDue j = some (v, g) ↔
    ∃ d ph, s.Times j d ph ∧ d.work = .wave v g ∧ g.turnsLeft ≠ 0 ∧ reached s.time (ph.turnEnd g.turnsLeft) = true := by
  constructor
  · intro h
    have hwork := Part.turnDue_some h
    obtain ⟨d, hd, hw⟩ := Part.workOf_iff.1 hwork
    cases hof : s.phaseOf j with
    | none => simp [Part.turnDue, hwork, hof] at h
    | some ph =>
      simp only [Part.turnDue, hwork, hof, Option.ite_none_right_eq_some, Bool.and_eq_true, decide_eq_true_eq] at h
      obtain ⟨⟨⟨⟨hworks, hclock⟩, hleft⟩, hreached⟩, -⟩ := h
      exact ⟨d, ph, State.times_iff.2 ⟨hclock, hworks, hd, hof⟩, hw, hleft.ne', hreached⟩
  · rintro ⟨d, ph, htimes, hw, hleft, hreached⟩
    obtain ⟨hclock, hworks, hd, hof⟩ := State.times_iff.1 htimes
    simp only [Part.turnDue, Part.workOf_iff.2 ⟨d, hd, hw⟩, hof, hworks, hclock, decide_eq_true (Nat.pos_of_ne_zero hleft),
      hreached, Bool.and_self, if_true]

theorem State.Times.unique {d d' : Definition} {ph ph' : CellPhase} (h : s.Times j d ph) (h' : s.Times j d' ph') :
    d = d' ∧ ph = ph' := by
  obtain ⟨-, -, hd, hof⟩ := State.times_iff.1 h
  obtain ⟨-, -, hd', hof'⟩ := State.times_iff.1 h'
  exact ⟨Option.some.inj (hd.symm.trans hd'), Option.some.inj (hof.symm.trans hof')⟩

/-! ### The steps -/

theorem exec_turnEnd : exec (.turnEnd (j.val + 1)) s = .next (s.withPart (s.toPart.turnStep j)) := by
  simp only [exec, execTurnEnd, jobOfNumber_succ]
  rfl

theorem exec_activePhaseEvent :
    exec (.activePhaseEvent (j.val + 1)) s = .next (s.withPart (s.toPart.activePhaseStep j)) := by
  simp only [exec, execActivePhaseEvent, jobOfNumber_succ]
  rfl

theorem exec_periodEnd : exec (.periodEnd (j.val + 1)) s = .next (s.withPart (s.toPart.periodStep j)) := by
  simp only [exec, execPeriodEnd, jobOfNumber_succ]
  rfl

theorem exec_pulseEnd : exec (.pulseEnd (j.val + 1)) s = .next (s.withPart (s.toPart.pulseStep j)) := by
  simp only [exec, execPulseEnd, jobOfNumber_succ]
  rfl

theorem turnEnd_idle (h : ∀ v g, s.turnDue j ≠ some (v, g)) : exec (.turnEnd (j.val + 1)) s = .next s := by
  rw [exec_turnEnd]
  have hnone : s.turnDue j = none := Option.eq_none_iff_forall_not_mem.2 fun x => h x.1 x.2
  simp only [Part.turnStep, hnone]
  rfl

theorem activePhaseEvent_idle (h : ∀ v g t, s.wavePhaseDue j .active ≠ some (v, g, t)) :
    exec (.activePhaseEvent (j.val + 1)) s = .next s := by
  rw [exec_activePhaseEvent]
  have hnone : s.wavePhaseDue j .active = none := Option.eq_none_iff_forall_not_mem.2 fun x => h x.1 x.2.1 x.2.2
  simp only [Part.activePhaseStep, hnone]
  rfl

theorem periodEnd_idle (h : ∀ v g t, s.wavePhaseDue j .idle ≠ some (v, g, t)) :
    exec (.periodEnd (j.val + 1)) s = .next s := by
  rw [exec_periodEnd]
  have hnone : s.wavePhaseDue j .idle = none := Option.eq_none_iff_forall_not_mem.2 fun x => h x.1 x.2.1 x.2.2
  simp only [Part.periodStep, hnone]
  rfl

theorem pulseEnd_idle (h : ∀ x g t, s.pulseDue j ≠ some (x, g, t)) : exec (.pulseEnd (j.val + 1)) s = .next s := by
  rw [exec_pulseEnd]
  have hnone : s.pulseDue j = none := Option.eq_none_iff_forall_not_mem.2 fun x => h x.1 x.2.1 x.2.2
  simp only [Part.pulseStep, hnone]
  rfl

theorem turnEnd_due {v : WaveParams} {g : WaveProgress} (h : s.turnDue j = some (v, g)) : exec (.turnEnd (j.val + 1)) s =
    .next (s.withPart (s.setWork j (.wave v { g with turnsLeft := g.turnsLeft - 1 }))) := by
  rw [exec_turnEnd]
  simp only [Part.turnStep, h]

theorem activePhaseEvent_due {v : WaveParams} {g : WaveProgress} {t : Time} (h : s.wavePhaseDue j .active = some (v, g, t)) :
    exec (.activePhaseEvent (j.val + 1)) s = .next (s.withPart (s.endActivePhase j v g t)) := by
  rw [exec_activePhaseEvent]
  simp only [Part.activePhaseStep, h]

theorem periodEnd_due {v : WaveParams} {g : WaveProgress} {t : Time} (h : s.wavePhaseDue j .idle = some (v, g, t)) :
    exec (.periodEnd (j.val + 1)) s = .next (s.withPart (s.endPeriod j v g t).arbitrate) := by
  rw [exec_periodEnd]
  simp only [Part.periodStep, h]

theorem pulseEnd_due {x : EchoParams} {g : EchoProgress} {t : Time} (h : s.pulseDue j = some (x, g, t)) :
    exec (.pulseEnd (j.val + 1)) s = .next (s.withPart (s.endPulse j x g t).arbitrate) := by
  rw [exec_pulseEnd]
  simp only [Part.pulseStep, h]

end

/-! ### The end of a period (R103) -/

section
variable {p : Part} {j : JobId} {v v' : WaveParams} {g : WaveProgress} {t : Time}

theorem Part.endPeriod_stopping (h : p.jobs[j].state = .stopping) :
    p.endPeriod j v g t = (p.setWork j (.wave v g.counted)).endJob j .hostStop t 0 := if_pos h

theorem Part.endPeriod_limit (hstate : p.jobs[j].state = .running) (hlimit : v.limit ≠ 0)
    (hat : g.counted.pulses.toNat = v.limit) :
    p.endPeriod j v g t = (p.setWork j (.wave v g.counted)).endJob j .limitReached t 0 :=
  (if_neg (by rw [hstate]; decide)).trans (if_pos ⟨hlimit, hat⟩)

theorem Part.endPeriod_next (hstate : p.jobs[j].state = .running) (h : v.limit = 0 ∨ g.counted.pulses.toNat ≠ v.limit) :
    p.endPeriod j v g t =
      ((p.setWork j (.wave v g.counted)).setStaged j none).beginPeriod j (v.applyStaged p.jobs[j].staged) g.counted t :=
  (if_neg (by rw [hstate]; decide)).trans (if_neg fun hlimit => h.elim hlimit.1 (· hlimit.2))

theorem WaveParams.applyStaged_eq {staged : Option Staged} (h : (staged = none ∧ v' = v) ∨
    ∃ period width, staged = some (.pair period width) ∧ v' = { v with period := period, width := width }) :
    v.applyStaged staged = v' := by
  obtain ⟨rfl, rfl⟩ | ⟨period, width, rfl, rfl⟩ := h <;> rfl

end

/-- Settles O49, by which event of the cell is due. -/
theorem waveCellEvents : Obligations.WaveCellEvents := by
  refine ⟨fun s j hother => ⟨?_, ?_, ?_⟩, ?_⟩
  · refine turnEnd_idle fun v g h => ?_
    obtain ⟨d, ph, htimes, hw, -⟩ := State.turnDue_iff.1 h
    exact hother d ph v g htimes hw
  · refine activePhaseEvent_idle fun v g t h => ?_
    obtain ⟨d, ph, htimes, hw, -⟩ := State.wavePhaseDue_iff.1 h
    exact hother d ph v g htimes hw
  · refine periodEnd_idle fun v g t h => ?_
    obtain ⟨d, ph, htimes, hw, -⟩ := State.wavePhaseDue_iff.1 h
    exact hother d ph v g htimes hw
  · rintro s j d ph v g _ _ htimes hw rfl rfl
    have hphase {phase : WavePhase} {v' g' t'} (h : s.wavePhaseDue j phase = some (v', g', t')) :
        g.phase = some phase ∧ g.turnsLeft = 0 ∧ reached s.time ph.endTime = true := by
      obtain ⟨d', ph', htimes', hw', hphase, hleft, hreached, -⟩ := State.wavePhaseDue_iff.1 h
      obtain ⟨rfl, rfl⟩ := htimes.unique htimes'
      obtain ⟨rfl, rfl⟩ := Work.wave.inj (hw.symm.trans hw')
      exact ⟨hphase, hleft, hreached⟩
    refine ⟨fun hleft hreached => ?_, fun hidle => turnEnd_idle fun v' g' h => ?_, fun hne => ?_, fun hne => ?_,
      fun hidle => ⟨?_, ?_⟩, fun hleft hreached hactive => ?_, fun hleft hreached hidle => ⟨_, rfl, ?_⟩⟩
    · exact turnEnd_due (State.turnDue_iff.2 ⟨d, ph, htimes, hw, hleft, hreached⟩)
    · obtain ⟨d', ph', htimes', hw', hleft, hreached⟩ := State.turnDue_iff.1 h
      obtain ⟨rfl, rfl⟩ := htimes.unique htimes'
      obtain ⟨rfl, rfl⟩ := Work.wave.inj (hw.symm.trans hw')
      exact hidle.elim hleft fun hlater => Bool.false_ne_true (hlater.symm.trans hreached)
    · exact activePhaseEvent_idle fun v' g' t' h => hne (hphase h).1
    · exact periodEnd_idle fun v' g' t' h => hne (hphase h).1
    · refine activePhaseEvent_idle fun v' g' t' h => ?_
      obtain ⟨-, hleft, hreached⟩ := hphase h
      exact hidle.elim (· hleft) fun hlater => Bool.false_ne_true (hlater.symm.trans hreached)
    · refine periodEnd_idle fun v' g' t' h => ?_
      obtain ⟨-, hleft, hreached⟩ := hphase h
      exact hidle.elim (· hleft) fun hlater => Bool.false_ne_true (hlater.symm.trans hreached)
    · exact activePhaseEvent_due (State.wavePhaseDue_iff.2 ⟨d, ph, htimes, hw, hactive, hleft, hreached, rfl⟩)
    · rw [periodEnd_due (State.wavePhaseDue_iff.2 ⟨d, ph, htimes, hw, hidle, hleft, hreached, rfl⟩)]
      refine ⟨fun hstate => ?_, fun hstate hlimit hat => ?_, fun hstate hbelow v' hv => ?_⟩
      · rw [Part.endPeriod_stopping hstate]
        rfl
      · rw [Part.endPeriod_limit hstate hlimit hat]
        rfl
      · rw [Part.endPeriod_next hstate hbelow, WaveParams.applyStaged_eq hv]
        rfl

/-! ### The end of a pulse (R115) -/

section
variable {p : Part} {j : JobId} {x : EchoParams} {g : EchoProgress} {t : Time}

/-- The part right after the pulse has been counted and its cell freed from timing (R115 step 1). -/
def Part.pulseCounted (p : Part) (j : JobId) (x : EchoParams) (g : EchoProgress) : Part :=
  (p.setWork j (.echo x g.counted)).setPhase j none

theorem Part.endPulse_limit (h : g.counted.atLimit x = true) :
    p.endPulse j x g t = (p.pulseCounted j x g).endJob j (limitCause p.jobs[j].state) t 0 := if_pos h

theorem Part.endPulse_stops (h : ¬ g.counted.atLimit x = true) (hlist : g.pendingList = [])
    (hstate : p.jobs[j].state = .stopping) : p.endPulse j x g t = (p.pulseCounted j x g).endJob j .hostStop t 0 := by
  refine (if_neg h).trans ?_
  simp only [hlist, hstate, if_true]
  rfl

theorem Part.endPulse_waits (h : ¬ g.counted.atLimit x = true) (hlist : g.pendingList = [])
    (hstate : p.jobs[j].state = .running) : p.endPulse j x g t = (p.pulseCounted j x g).driveIdle j := by
  refine (if_neg h).trans ?_
  simp only [hlist, hstate]
  rfl

theorem Part.endPulse_next {head : PendingPulse} {rest : List PendingPulse} (h : ¬ g.counted.atLimit x = true)
    (hlist : g.pendingList = head :: rest) : p.endPulse j x g t =
      if head.due = t then ((p.pulseCounted j x g).unschedule j).beginPulse j x g.counted t
      else (p.pulseCounted j x g).driveIdle j := by
  refine (if_neg h).trans ?_
  simp only [hlist]
  rfl

end

/-- Settles O50, by whether the pulse ends now and what follows it. -/
theorem pulseEndsByOrder : Obligations.PulseEndsByOrder := by
  refine ⟨fun s j hother => pulseEnd_idle fun x g t h => ?_, ?_⟩
  · obtain ⟨d, ph, htimes, hw, hpulse, -⟩ := State.pulseDue_iff.1 h
    exact hpulse (hother d ph x g htimes hw)
  · rintro s j d ph x g _ _ _ htimes hw hpulse rfl rfl rfl
    refine ⟨fun hlater => pulseEnd_idle fun x' g' t' h => ?_, fun hreached => ?_⟩
    · obtain ⟨d', ph', htimes', -, -, hreached, -⟩ := State.pulseDue_iff.1 h
      obtain ⟨rfl, rfl⟩ := htimes.unique htimes'
      exact Bool.false_ne_true (hlater.symm.trans hreached)
    · rw [pulseEnd_due (State.pulseDue_iff.2 ⟨d, ph, htimes, hw, hpulse, hreached, rfl⟩)]
      refine ⟨fun hlimit hat => ?_, fun hbelow => ?_⟩
      · rw [Part.endPulse_limit ((EchoProgress.atLimit_iff _ _).2 ⟨hlimit, hat⟩)]
        rfl
      · have hmore : ¬ g.counted.atLimit x = true := fun hlast =>
          have ⟨hlimit, hat⟩ := (EchoProgress.atLimit_iff _ _).1 hlast
          hbelow.elim hlimit (· hat)
        refine ⟨fun hlist hstate => ?_, fun hlist hstate => ?_, fun head rest hlist => ?_⟩
        · rw [Part.endPulse_stops hmore hlist hstate]
          rfl
        · rw [Part.endPulse_waits hmore hlist hstate]
          rfl
        · have hcounted : g.counted.pendingList = head :: rest := hlist
          rw [Part.endPulse_next hmore hlist]
          refine ⟨fun hdue => ?_, fun hdue => ?_⟩
          · rw [if_pos (show head.due = ph.endTime from hdue), Part.beginPulse_cons _ _ _ hcounted]
            rfl
          · rw [if_neg (show head.due ≠ ph.endTime from hdue)]
            rfl

end Sys2Proof.Machine
end

section
/-! SUPPORT. What the part does on an empty queue: when a frame is ready (R160), which events are due (R33, R36, R83, R100, R142,
R145, R155, R159, R160), and how a microsecond passes (R30, R65, R151). -/

namespace Sys2Proof.Machine

open Sys2Proof

/-! ### When a frame is ready (R138, R160) -/

theorem nextToSend_isSome {q : List ReportEntry} : (nextToSend q).isSome = true ↔ ∃ e ∈ q, e.delivery ≠ .sent := by
  constructor
  · intro h
    obtain ⟨e, he⟩ := Option.isSome_iff_exists.1 h
    unfold nextToSend at he
    split at he
    · next x hx =>
      exact ⟨x, List.mem_of_find?_eq_some hx, fun hsent => by simpa [hsent] using List.find?_some hx⟩
    · exact ⟨e, List.mem_of_find?_eq_some he, fun hsent => by simpa [hsent] using List.find?_some he⟩
  · rintro ⟨e, he, hsent⟩
    cases hresend : q.find? (fun x => decide (x.delivery = .resend)) with
    | some x => simp [nextToSend, hresend]
    | none =>
      have hnot := List.find?_eq_none.1 hresend e he
      have hnew : e.delivery = .new := by
        cases hd : e.delivery <;> simp_all
      simp only [nextToSend, hresend]
      exact List.find?_isSome.2 ⟨e, he, decide_eq_true hnew⟩

theorem Reporter.eligible_isSome {r : Reporter} : r.eligible.isSome = true ↔
    r.link = .up ∧ sentCount r.queue < 8 ∧ ∃ e ∈ r.queue, e.delivery ≠ .sent := by
  rw [← nextToSend_isSome, ← and_assoc]
  by_cases h : r.link = .up ∧ sentCount r.queue < 8 <;> simp [Reporter.eligible, h]

theorem Part.txReady_iff {p : Part} : p.txReady = true ↔ p.port.tx = .idle ∧ p.clocked = true ∧
    (p.port.replies ≠ [] ∨
      (p.reports.link = .up ∧ sentCount p.reports.queue < 8 ∧ ∃ e ∈ p.reports.queue, e.delivery ≠ .sent)) := by
  rw [← Reporter.eligible_isSome]
  cases htx : p.port.tx <;> simp [Part.txReady, htx]

/-! ### Device time runs (R30, R65, R151) -/

theorem Part.advance_job (p : Part) (j : JobId) : p.advance.jobs[j] = p.jobs[j].age (p.time + 1#48) := by
  simp [Part.advance]

theorem Job.age_interval {b : Job} {d : Definition} {m : MeasureParams} {g : MeasureProgress} {i : OpenInterval} (now : Time)
    (hd : b.defn = some d) (hw : d.work = .measure m g) (hi : g.interval = some i) :
    b.age now = { b with defn := some { d with work := .measure m { g with interval := some (i.age now) } } } := by
  simp only [Job.age, hd, hw, hi, Option.map_some]

/-- Time leaves a job as it is that has no interval open. -/
theorem Job.age_of_closed {b : Job} (now : Time)
    (h : ∀ d m g i, b.defn = some d → d.work = .measure m g → g.interval ≠ some i) : b.age now = b := by
  cases hd : b.defn with
  | none => simp only [Job.age, hd]
  | some d =>
    cases hw : d.work with
    | measure m g =>
      have hnone : g.interval = none := Option.eq_none_iff_forall_ne_some.2 fun i => h d m g i hd hw
      have hg : ({ g with interval := none } : MeasureProgress) = g := by rw [← hnone]
      have hself : ({ d with work := .measure m g } : Definition) = d := by rw [← hw]
      simp only [Job.age, hd, hw, hnone, Option.map_none, hg, hself]
      rw [← hd]
    | _ => simp only [Job.age, hd, hw]

theorem Port.endWait_readyAt (q : Port) (now : Time) :
    (q.rxReadyAt = none → (q.endWait now).rxReadyAt = none) ∧
    ∀ x, q.rxReadyAt = some x → (q.endWait now).rxReadyAt = if reached now x then none else some x := by
  refine ⟨fun h => by simp [Port.endWait, h], fun x h => ?_⟩
  by_cases hreached : reached now x = true <;> simp [Port.endWait, h, Option.filter, hreached]

/-! ### The idle step -/

section
variable {s : State}

theorem step_idle (h : s.pending = []) : step s = idle s := by simp only [step, h]

theorem idle_txReady (h : s.txReady = true) : idle s = .next (s.withPart s.toPart.arbitrate) := if_pos h

theorem idle_enabled (h : s.txReady = false) (he : s.enabled ≠ []) :
    ∃ i ∈ s.enabled, ∃ k, idle s = exec i { s with choices := s.choices + k } := by
  match hlist : s.enabled with
  | [] => exact absurd hlist he
  | [i] =>
    refine ⟨i, List.mem_singleton_self i, 0, ?_⟩
    simp only [idle, h, hlist, Bool.false_eq_true, if_false, Nat.add_zero]
  | i :: x :: rest =>
    refine ⟨s.toPart.choose i (x :: rest), ?_, 1, ?_⟩
    · have hlt : Config.eventChoice s.choices % ((x :: rest).length + 1) < (i :: x :: rest).length := Nat.mod_lt _ (by simp)
      rw [Part.choose, List.getD_eq_getElem _ _ hlt]
      exact List.getElem_mem hlt
    · simp only [idle, h, hlist, Bool.false_eq_true, if_false]

theorem idle_advance (h : s.txReady = false) (he : s.enabled = []) (hclock : s.clocked = true) :
    idle s = .next (s.withPart s.toPart.advance) := by
  simp only [idle, h, he, hclock, Bool.false_eq_true, if_false, if_true]
  rfl

theorem idle_still (h : s.txReady = false) (he : s.enabled = []) (hclock : s.clocked = false) : idle s = .next s := by
  simp only [idle, h, he, hclock, Bool.false_eq_true, if_false]

end

/-! ### The events that are due -/

section
variable {p : Part} {i : Instr}

theorem mem_ite_singleton {α : Type} {x y : α} {c : Bool} : x ∈ (if c then [y] else []) ↔ c = true ∧ x = y := by
  cases c <;> simp

theorem acceptanceDue_iff {now : Time} {l : InputLine} : acceptanceDue now l = true ↔
    ∃ c, l.change = some c ∧ reached now (plus c.firstSeen c.filterTime) = true := by
  cases h : l.change <;> simp [acceptanceDue, h]

theorem Part.mem_dueAcceptances : i ∈ p.dueAcceptances ↔ ∃ (n : InId) (c : LineChange), i = .edgeAcceptance n.val ∧
    p.clocked = true ∧ p.inputs[n].change = some c ∧ reached p.time (plus c.firstSeen c.filterTime) = true := by
  simp only [Part.dueAcceptances, List.mem_map, List.mem_filter, List.mem_finRange, true_and, Bool.and_eq_true,
    acceptanceDue_iff]
  constructor
  · rintro ⟨n, ⟨hclock, c, hchange, hreached⟩, rfl⟩
    exact ⟨n, c, rfl, hclock, hchange, hreached⟩
  · rintro ⟨n, c, rfl, hclock, hchange, hreached⟩
    exact ⟨n, ⟨hclock, c, hchange, hreached⟩, rfl⟩

theorem Part.mem_dueDeadline : i ∈ p.dueDeadline ↔ ∃ (e : DeadlineEntry) (rest : List DeadlineEntry),
    p.schedule = e :: rest ∧ p.clocked = true ∧ reached p.time e.due = true ∧ i = e.purpose.row := by
  cases h : p.schedule with
  | nil => simp [Part.dueDeadline, Part.dueEntry, h]
  | cons e rest =>
    by_cases hdue : (p.clocked && reached p.time e.due) = true
    · obtain ⟨hclock, hreached⟩ := Bool.and_eq_true_iff.1 hdue
      simp [Part.dueDeadline, Part.dueEntry, h, hclock, hreached]
    · have hnot : ¬ (p.clocked = true ∧ reached p.time e.due = true) := fun hc => hdue (Bool.and_eq_true_iff.2 hc)
      simp only [Part.dueDeadline, Part.dueEntry, h, hdue, Bool.false_eq_true, if_false, List.not_mem_nil, false_iff]
      rintro ⟨e', rest', heq, hclock, hreached, -⟩
      obtain ⟨rfl, -⟩ := List.cons.inj heq
      exact hnot ⟨hclock, hreached⟩

theorem Part.timerDue_iff : p.timerDue = true ↔ ∃ t, p.clocked = true ∧ p.reports.timer = some t ∧ reached p.time t = true := by
  cases h : p.reports.timer <;> simp [Part.timerDue, h]

theorem Part.gapDue_iff : p.gapDue = true ↔ ∃ t, p.clocked = true ∧ p.port.gapExpiry = some t ∧ reached p.time t = true ∧
    (p.port.rxState = .length ∨ p.port.rxState = .body ∨ p.port.rxState = .check) := by
  cases h : p.port.gapExpiry <;> cases hrx : p.port.rxState <;> simp [Part.gapDue, h, hrx]

theorem Part.sampledInputs_iff (levels : BitVec 16) : levels = p.sampledInputs ↔
    ∀ n : InId, levels.getLsbD n.val = true ↔ p.inputs[n].sampled = .high := by
  obtain ⟨hbits, -⟩ := packBits_vector p.inputs (fun l => decide (l.sampled = .high))
  have hsampled (n : InId) : p.sampledInputs.getLsbD n.val = decide (p.inputs[n].sampled = .high) := by
    rw [← hbits n, Part.sampledInputs, BitVec.getLsbD_ofNat]
    simp
  constructor
  · rintro rfl n
    rw [hsampled, decide_eq_true_eq]
  · intro h
    refine BitVec.eq_of_getLsbD_eq fun n hn => ?_
    exact Bool.eq_iff_iff.2 ((h ⟨n, hn⟩).trans (by rw [hsampled ⟨n, hn⟩, decide_eq_true_eq]))

theorem Part.mem_dueFrameEnd : i ∈ p.dueFrameEnd ↔ ∃ f, p.frameDone = some f ∧
    ((f.isResetReply = false ∧ i = .txFrameEnd) ∨ (f.isResetReply = true ∧ ∃ levels : BitVec 16,
      i = .commandResetExecution levels ∧ ∀ n : InId, levels.getLsbD n.val = true ↔ p.inputs[n].sampled = .high)) := by
  simp only [← Part.sampledInputs_iff]
  cases h : p.frameDone with
  | none => simp [Part.dueFrameEnd, h]
  | some f => cases hreset : f.isResetReply <;> simp [Part.dueFrameEnd, h, hreset]

/-- The kind codes of the commands with their rows (R165). -/
def kindRows : List (Nat × Instr) :=
  [(1, .ident), (2, .define), (3, .start), (4, .stop), (5, .hold), (6, .resume), (7, .alter),
    (8, .read), (9, .delete), (10, .list), (11, .ack), (12, .reconnect), (13, .linkcfg), (14, .linecfg),
    (15, .drive), (16, .sense), (17, .time), (18, .linkstat), (19, .reset)]

theorem rowOfKind_mem : ∀ k : Byte, isCommandKind k = true → (k.toNat, rowOfKind k) ∈ kindRows := by decide +kernel

theorem rowOfKind_of_mem : ∀ k : Byte, ∀ r ∈ kindRows, r.1 = k.toNat → r.2 = rowOfKind k := by decide +kernel

theorem isCommandKind_eq_false {k : Byte} : isCommandKind k = false ↔ k.toNat < 1 ∨ 19 < k.toNat := by
  simp only [isCommandKind, Bool.and_eq_false_iff, decide_eq_false_iff_not, Nat.not_le]

theorem rowOfKind_iff {k : Byte} : i = rowOfKind k ↔
    (k.toNat, i) ∈ kindRows ∨ ((k.toNat < 1 ∨ 19 < k.toNat) ∧ i = .unknownKind) := by
  rw [← isCommandKind_eq_false]
  constructor
  · rintro rfl
    cases h : isCommandKind k with
    | true => exact .inl (rowOfKind_mem k h)
    | false => exact .inr ⟨rfl, rowOfKind_unknown k h⟩
  · rintro (h | ⟨h, rfl⟩)
    · exact rowOfKind_of_mem k _ h rfl
    · exact (rowOfKind_unknown k h).symm

theorem Part.mem_dueIntake : i ∈ p.dueIntake ↔ ∃ f, p.frameToTake = some f ∧
    ((f.kind.toNat, i) ∈ kindRows ∨ ((f.kind.toNat < 1 ∨ 19 < f.kind.toNat) ∧ i = .unknownKind)) := by
  simp only [← rowOfKind_iff]
  cases h : p.frameToTake <;> simp [Part.dueIntake, h]

end

/-! ### The cell events that are due (R100) -/

section
variable {s : State} {j : JobId} {i : Instr}

theorem State.turnDue_isSome : (s.turnDue j).isSome = true ↔ ∃ v g d ph, s.Times j d ph ∧ d.work = .wave v g ∧
    g.turnsLeft ≠ 0 ∧ reached s.time (ph.turnEnd g.turnsLeft) = true := by
  simp only [Option.isSome_iff_exists, Prod.exists, State.turnDue_iff]

theorem State.wavePhaseDue_isSome {phase : WavePhase} : (s.wavePhaseDue j phase).isSome = true ↔
    ∃ v g t d ph, s.Times j d ph ∧ d.work = .wave v g ∧ g.phase = some phase ∧ g.turnsLeft = 0 ∧
      reached s.time ph.endTime = true ∧ t = ph.endTime := by
  simp only [Option.isSome_iff_exists, Prod.exists, State.wavePhaseDue_iff]

theorem State.pulseDue_isSome : (s.pulseDue j).isSome = true ↔ ∃ x g t d ph, s.Times j d ph ∧ d.work = .echo x g ∧
    g.pulse ≠ none ∧ reached s.time ph.endTime = true ∧ t = ph.endTime := by
  simp only [Option.isSome_iff_exists, Prod.exists, State.pulseDue_iff]

/-- `i` is the event of a WAVE job's cell that is due. -/
def State.WaveDue (s : State) (i : Instr) (j : JobId) (d : Definition) (ph : CellPhase) (v : WaveParams) (g : WaveProgress) :
    Prop :=
  s.Times j d ph ∧ d.work = .wave v g ∧
    ((i = .turnEnd (j.val + 1) ∧ g.turnsLeft ≠ 0 ∧ reached s.time (ph.turnEnd g.turnsLeft) = true) ∨
      (g.turnsLeft = 0 ∧ reached s.time ph.endTime = true ∧
        ((i = .activePhaseEvent (j.val + 1) ∧ g.phase = some .active) ∨ (i = .periodEnd (j.val + 1) ∧ g.phase = some .idle))))

/-- `i` is the end of the pulse of an ECHO job, and is due. -/
def State.PulseDue (s : State) (i : Instr) (j : JobId) (d : Definition) (ph : CellPhase) (x : EchoParams) (g : EchoProgress) :
    Prop :=
  s.Times j d ph ∧ d.work = .echo x g ∧ g.pulse ≠ none ∧ reached s.time ph.endTime = true ∧ i = .pulseEnd (j.val + 1)

theorem State.mem_dueCellEvents : i ∈ s.dueCellEvents j ↔
    (∃ d ph v g, s.WaveDue i j d ph v g) ∨ ∃ d ph x g, s.PulseDue i j d ph x g := by
  simp only [Part.dueCellEvents, List.mem_append, mem_ite_singleton, State.turnDue_isSome,
    State.wavePhaseDue_isSome, State.pulseDue_isSome, jobNumber, State.WaveDue, State.PulseDue]
  constructor
  · rintro (((⟨⟨v, g, d, ph, htimes, hw, hleft, hreached⟩, rfl⟩ | ⟨⟨v, g, -, d, ph, htimes, hw, hphase, hleft, hreached, -⟩, rfl⟩) |
      ⟨⟨v, g, -, d, ph, htimes, hw, hphase, hleft, hreached, -⟩, rfl⟩) | ⟨⟨x, g, -, d, ph, htimes, hw, hpulse, hreached, -⟩, rfl⟩)
    · exact .inl ⟨d, ph, v, g, htimes, hw, .inl ⟨rfl, hleft, hreached⟩⟩
    · exact .inl ⟨d, ph, v, g, htimes, hw, .inr ⟨hleft, hreached, .inl ⟨rfl, hphase⟩⟩⟩
    · exact .inl ⟨d, ph, v, g, htimes, hw, .inr ⟨hleft, hreached, .inr ⟨rfl, hphase⟩⟩⟩
    · exact .inr ⟨d, ph, x, g, htimes, hw, hpulse, hreached, rfl⟩
  · rintro (⟨d, ph, v, g, htimes, hw, ⟨rfl, hleft, hreached⟩ | ⟨hleft, hreached, ⟨rfl, hphase⟩ | ⟨rfl, hphase⟩⟩⟩ |
      ⟨d, ph, x, g, htimes, hw, hpulse, hreached, rfl⟩)
    · exact .inl (.inl (.inl ⟨⟨v, g, d, ph, htimes, hw, hleft, hreached⟩, rfl⟩))
    · exact .inl (.inl (.inr ⟨⟨v, g, _, d, ph, htimes, hw, hphase, hleft, hreached, rfl⟩, rfl⟩))
    · exact .inl (.inr ⟨⟨v, g, _, d, ph, htimes, hw, hphase, hleft, hreached, rfl⟩, rfl⟩)
    · exact .inr ⟨⟨x, g, _, d, ph, htimes, hw, hpulse, hreached, rfl⟩, rfl⟩

theorem State.mem_cellEvents : i ∈ (List.finRange 32).flatMap s.toPart.dueCellEvents ↔
    (∃ j d ph v g, s.WaveDue i j d ph v g) ∨ ∃ j d ph x g, s.PulseDue i j d ph x g := by
  simp only [List.mem_flatMap, List.mem_finRange, true_and, State.mem_dueCellEvents]
  exact exists_or

theorem State.mem_enabled : i ∈ s.enabled ↔ i ∈ s.dueAcceptances ∨ (∃ x ∈ s.deliveries, i = .edgeDelivery (x.job.val + 1)) ∨
    i ∈ s.dueDeadline ∨ (∃ j d ph v g, s.WaveDue i j d ph v g) ∨ (∃ j d ph x g, s.PulseDue i j d ph x g) ∨
    (s.timerDue = true ∧ i = .retransmitTimerExpiry) ∨ (∃ x ∈ s.reports.lossDeliveries, i = .lossPolicy (x.job.val + 1)) ∨
    (s.gapDue = true ∧ i = .gapExpiry) ∨ i ∈ s.dueFrameEnd ∨ i ∈ s.dueIntake := by
  simp only [Part.enabled, List.mem_append, State.mem_cellEvents, mem_ite_singleton, List.mem_map, jobNumber, or_assoc,
    eq_comm (b := i)]

end

/-- Settles O2: the idle step by what is ready and what is due, and each of the lists of the events that are due. -/
theorem emptyQueueIdles : Obligations.EmptyQueueIdles := by
  refine ⟨fun s hpending => ?_, fun p => Part.txReady_iff, fun s i => ?_⟩
  · rw [step_idle hpending]
    refine ⟨idle_txReady, idle_enabled, fun h he hclock => ⟨_, idle_advance h he hclock, rfl, rfl, rfl, ?_⟩, idle_still⟩
    obtain ⟨hnone, hsome⟩ := s.port.endWait_readyAt (s.time + 1#48)
    refine ⟨hnone, hsome, fun j => ⟨fun d m g x hd hw hx => ?_, fun hclosed => ?_⟩⟩
    · exact (s.toPart.advance_job j).trans (Job.age_interval _ hd hw hx)
    · exact (s.toPart.advance_job j).trans (Job.age_of_closed _ hclosed)
  · rw [State.mem_enabled, Part.mem_dueAcceptances, Part.mem_dueDeadline, Part.timerDue_iff, Part.gapDue_iff,
      Part.mem_dueFrameEnd, Part.mem_dueIntake]
    refine or_congr .rfl (or_congr .rfl (or_congr ?_ (or_congr .rfl (or_congr .rfl (or_congr ?_ (or_congr .rfl
      (or_congr ?_ (or_congr .rfl .rfl))))))))
    · refine exists_congr fun e => exists_congr fun rest => and_congr_right fun _ => and_congr_right fun _ =>
        and_congr_right fun _ => ?_
      cases e.purpose <;> exact .rfl
    · exact ⟨fun ⟨⟨t, h⟩, hi⟩ => ⟨t, hi, h⟩, fun ⟨t, hi, h⟩ => ⟨⟨t, h⟩, hi⟩⟩
    · exact ⟨fun ⟨⟨t, h⟩, hi⟩ => ⟨t, hi, h⟩, fun ⟨t, hi, h⟩ => ⟨⟨t, h⟩, hi⟩⟩

end Sys2Proof.Machine
end

section
/-! SUPPORT. What the receiver does with a byte in each of its states (R154), and the bytes of a whole frame, one a step
(R151–R157). -/

namespace Sys2Proof.Machine

open Sys2Proof

/-! ### One byte (R154) -/

section
variable {p : Part} {b : Byte}

theorem Part.receiveByte_sync (h : p.port.rxState = .hunt) :
    p.receiveByte syncByte = p.takeByte .length { taken := [syncByte], expected := 0 } := by
  simp only [Part.receiveByte, h, if_true]

theorem Part.receiveByte_noise (h : p.port.rxState = .hunt) (hb : b ≠ syncByte) :
    p.receiveByte b = p.setErrors { p.port.errors with noise := satSucc 65535 p.port.errors.noise } := by
  simp only [Part.receiveByte, h, if_neg hb]

theorem Part.receiveByte_length {r : RxFrame} (h : p.port.rxState = .length) (hr : p.port.rxFrame = some r)
    (hb : 2 ≤ b.toNat ∧ b.toNat ≤ 200) :
    p.receiveByte b = p.takeByte .body { taken := r.taken ++ [b], expected := b.toNat } := by
  simp only [Part.receiveByte, h, if_pos hb, Port.underReception, hr, Option.getD_some]

theorem Part.receiveByte_badLength (h : p.port.rxState = .length) (hb : b.toNat < 2 ∨ 200 < b.toNat) :
    p.receiveByte b = (p.setReceiver .hunt).setErrors
      { p.port.errors with badFrameLength := satSucc 65535 p.port.errors.badFrameLength } := by
  have hnot : ¬ (2 ≤ b.toNat ∧ b.toNat ≤ 200) := by omega
  simp only [Part.receiveByte, h, if_neg hnot]

theorem Part.receiveByte_body {r : RxFrame} (h : p.port.rxState = .body) (hr : p.port.rxFrame = some r)
    (hmore : 1 < r.expected) : p.receiveByte b = p.takeByte p.port.rxState (r.push b) := by
  simp only [Part.receiveByte, h, Port.underReception, hr, Option.getD_some, if_neg (Nat.not_le.2 hmore)]

theorem Part.receiveByte_bodyEnd {r : RxFrame} (h : p.port.rxState = .body) (hr : p.port.rxFrame = some r)
    (hlast : r.expected = 1) : p.receiveByte b = p.takeByte .check { taken := r.taken ++ [b], expected := 2 } := by
  simp only [Part.receiveByte, h, Port.underReception, hr, Option.getD_some, if_pos hlast.le]

theorem Part.receiveByte_check {r : RxFrame} (h : p.port.rxState = .check) (hr : p.port.rxFrame = some r)
    (hmore : 1 < r.expected) : p.receiveByte b = p.takeByte p.port.rxState (r.push b) := by
  simp only [Part.receiveByte, h, Port.underReception, hr, Option.getD_some, if_neg (Nat.not_le.2 hmore)]

/-- Settling a frame changes the buffer and the counters only. -/
theorem Part.settleFrame_receiver (p : Part) (bytes : List Byte) : (p.settleFrame bytes).port.rxState = p.port.rxState ∧
    (p.settleFrame bytes).port.rxFrame = p.port.rxFrame ∧ (p.settleFrame bytes).port.gapExpiry = p.port.gapExpiry := by
  unfold Part.settleFrame
  split
  · exact ⟨rfl, rfl, rfl⟩
  · split <;> exact ⟨rfl, rfl, rfl⟩

end

theorem exec_byteReceived_idle {s : State} {c : RxCharacter} (h : s.takesCharacter c.high = false ∨ s.port.rxState = .closed) :
    exec (.byteReceived c) s = .next s := by
  have hnot : (s.takesCharacter c.high && decide (s.port.rxState ≠ .closed)) = false := by
    obtain h | h := h <;> simp [h]
  have hstep : s.toPart.byteStep c = s.toPart := by simp only [Part.byteStep, hnot, Bool.false_eq_true, if_false]
  exact congrArg (fun p => Host.Outcome.next (s.withPart p)) hstep

/-- Settles O9, by the state of the receiver. -/
theorem receiverActsOnByteByState : Obligations.ReceiverActsOnByteByState := by
  intro s b high htakes
  have hexec (hopen : s.port.rxState ≠ .closed) := exec_byteReceived_taken htakes hopen b
  refine ⟨fun h hb => ?_, fun h hb => ?_, fun r h hr hlow hhigh => ?_, fun h hb => ?_, fun r h hr hmore => ?_,
    fun r h hr hlast => ?_, fun r h hr hmore => ?_, fun r h hr hlast => ?_, fun h => exec_byteReceived_idle (.inr h)⟩
  all_goals rw [hexec (by rw [h]; decide)]
  · rw [show b = syncByte from hb, Part.receiveByte_sync (p := s.endHighWait) h]
    rfl
  · rw [Part.receiveByte_noise (p := s.endHighWait) h hb]
    rfl
  · rw [Part.receiveByte_length (p := s.endHighWait) h hr ⟨hlow, hhigh⟩]
    rfl
  · rw [Part.receiveByte_badLength (p := s.endHighWait) h hb]
    rfl
  · rw [Part.receiveByte_body (p := s.endHighWait) h hr hmore]
    rfl
  · rw [Part.receiveByte_bodyEnd (p := s.endHighWait) h hr hlast]
    rfl
  · rw [Part.receiveByte_check (p := s.endHighWait) h hr (by omega), RxFrame.push, hmore]
    rfl
  · refine ⟨_, rfl, ?_⟩
    have hr' : s.endHighWait.port.rxFrame = some { taken := r.taken, expected := 1 } := by rw [← hlast]; exact hr
    rw [Part.receiveByte_completing (p := s.endHighWait) h hr']
    exact Part.settleFrame_receiver _ _

/-! ### A whole frame -/

/-- The state in the middle of a frame, with `pending` to come. -/
def State.amid (s : State) (st : RxState) (taken : List Byte) (expected : Nat) (pending : List Instr) : State :=
  { s with
    port := { s.port with
      rxAwaitsHigh := false, rxReadyAt := none, rxState := st, rxFrame := some { taken := taken, expected := expected },
      gapExpiry := some (s.time + 5000#48) }
    pending := pending }

/-- One character of a frame, its stop bit high. -/
def characterStep (b : Byte) (high : Nat) : Instr := .byteReceived ⟨b, .high, high⟩

theorem run_succ {n : Nat} {i : Instr} {rest : List Instr} {s t : State} (h : exec i { s with pending := rest } = .next t) :
    Host.Core.run Sys2Proof.core (n + 1) { s with pending := i :: rest } = Host.Core.run Sys2Proof.core n t := by
  have hstep : Sys2Proof.core.step { s with pending := i :: rest } = .next t := h
  simp only [Host.Core.run, hstep]

section
variable {s : State} {n : Nat} {taken : List Byte} {rest : List Instr}

/-- Amid a frame no wait is on, so the receiver takes every character. -/
theorem State.amid_takes {first : Nat} (h : s.takesCharacter first = true) (st : RxState) (expected high : Nat)
    (pending : List Instr) : (s.amid st taken expected pending).takesCharacter high = true := by
  simp only [Part.takesCharacter, Bool.and_eq_true] at h
  obtain ⟨⟨⟨hclock, hbreak⟩, -⟩, -⟩ := h
  have hclock' : (s.amid st taken expected pending).clocked = true := hclock
  have hbreak' : (!(s.amid st taken expected pending).port.inBreak) = true := hbreak
  simp only [Part.takesCharacter, hclock', hbreak']
  rfl

theorem run_amid {st : RxState} {expected : Nat} {i : Instr} {t : State} (h : exec i (s.amid st taken expected rest) = .next t) :
    Host.Core.run Sys2Proof.core (n + 1) (s.amid st taken expected (i :: rest)) = Host.Core.run Sys2Proof.core n t :=
  run_succ (s := s.amid st taken expected rest) h

variable {b : Byte} {first high : Nat}

theorem exec_amid_length (h : s.takesCharacter first = true) (hlow : 2 ≤ b.toNat) (hhigh : b.toNat ≤ 200) :
    exec (characterStep b high) (s.amid .length taken 0 rest) = .next (s.amid .body (taken ++ [b]) b.toNat rest) := by
  obtain ⟨-, -, hlength, -⟩ := receiverActsOnByteByState _ b high (State.amid_takes (taken := taken) h .length 0 high rest)
  exact hlength _ rfl rfl hlow hhigh

theorem exec_amid_body (h : s.takesCharacter first = true) {k : Nat} (hk : 1 ≤ k) :
    exec (characterStep b high) (s.amid .body taken (k + 1) rest) = .next (s.amid .body (taken ++ [b]) k rest) := by
  obtain ⟨-, -, -, -, hbody, -⟩ :=
    receiverActsOnByteByState _ b high (State.amid_takes (taken := taken) h .body (k + 1) high rest)
  exact hbody _ rfl rfl (Nat.lt_succ_of_le hk)

theorem exec_amid_bodyEnd (h : s.takesCharacter first = true) :
    exec (characterStep b high) (s.amid .body taken 1 rest) = .next (s.amid .check (taken ++ [b]) 2 rest) := by
  obtain ⟨-, -, -, -, -, hend, -⟩ := receiverActsOnByteByState _ b high (State.amid_takes (taken := taken) h .body 1 high rest)
  exact hend _ rfl rfl rfl

theorem exec_amid_check (h : s.takesCharacter first = true) :
    exec (characterStep b high) (s.amid .check taken 2 rest) = .next (s.amid .check (taken ++ [b]) 1 rest) := by
  obtain ⟨-, -, -, -, -, -, hcheck, -⟩ :=
    receiverActsOnByteByState _ b high (State.amid_takes (taken := taken) h .check 2 high rest)
  exact hcheck _ rfl rfl rfl

theorem exec_amid_last {f : Frame} (h : s.takesCharacter first = true) (hwire : taken ++ [b] = f.wire)
    (hroom : s.port.rxBuffer.length < 2) : exec (characterStep b high) (s.amid .check taken 1 rest) =
      .next { s with
        port := { s.port with
          rxAwaitsHigh := false, rxReadyAt := none, rxState := .hunt, rxFrame := none, gapExpiry := none,
          rxBuffer := s.port.rxBuffer ++ [f] }
        pending := rest } := by
  obtain ⟨-, -, haccepted⟩ := completeFrameIsSettled _ b high taken (State.amid_takes h .check 1 high rest) rfl rfl
  exact haccepted f hwire hroom

theorem exec_sync (h : s.takesCharacter first = true) (hhunt : s.port.rxState = .hunt) :
    exec (characterStep syncByte first) { s with pending := rest } = .next (s.amid .length [syncByte] 0 rest) := by
  obtain ⟨hsync, -⟩ := receiverActsOnByteByState { s with pending := rest } syncByte first h
  exact hsync hhunt rfl

/-- The bytes between the length and the CRC, as many as the length says. -/
theorem run_body (h : s.takesCharacter first = true) : ∀ (bs : List Byte) (taken : List Byte) (highs : List Nat),
    bs ≠ [] → highs.length = bs.length →
    Host.Core.run Sys2Proof.core (n + bs.length) (s.amid .body taken bs.length (List.zipWith characterStep bs highs ++ rest)) =
      Host.Core.run Sys2Proof.core n (s.amid .check (taken ++ bs) 2 rest)
  | [], _, _, hne, _ => absurd rfl hne
  | _ :: _, _, [], _, hlength => nomatch hlength
  | [b], taken, high :: highs, _, _ => by
    rw [List.zipWith_cons_cons, List.zipWith_nil_left]
    exact run_amid (exec_amid_bodyEnd h)
  | b :: c :: bs, taken, high :: highs, _, hlength => by
    have hrest := run_body h (c :: bs) (taken ++ [b]) highs (List.cons_ne_nil _ _) (Nat.succ.inj hlength)
    rw [List.append_assoc] at hrest
    exact (run_amid (exec_amid_body h (Nat.le_add_left 1 bs.length))).trans hrest

theorem Frame.lengthByte_toNat {f : Frame} (h : f.payload.length ≤ 198) :
    (BitVec.ofNat 8 (f.payload.length + 2)).toNat = (f.kind :: f.tag :: f.payload).length := by
  rw [BitVec.toNat_ofNat, Nat.mod_eq_of_lt (by omega)]
  rfl

end

/-- Settles O11: the sync byte, the length, the body by `run_body`, and the CRC. -/
theorem encodedFrameIsReceived : Obligations.EncodedFrameIsReceived := by
  intro f s first later hpayload htakes hlength hhunt hframe hgap hroom
  obtain ⟨high, low, hwire, -⟩ := f.wire_eq
  have hbyte := Frame.lengthByte_toNat hpayload
  have hsplit : f.wire = syncByte :: BitVec.ofNat 8 (f.payload.length + 2) :: (f.kind :: f.tag :: f.payload ++ [high, low]) :=
    hwire
  rw [Frame.wire_length] at hlength
  obtain ⟨second, later, rfl⟩ := List.exists_cons_of_length_pos (l := later) (by omega)
  obtain ⟨highs, ends, rfl, hends⟩ : ∃ highs ends : List Nat, later = highs ++ ends ∧ ends.length = 2 :=
    ⟨later.take (later.length - 2), later.drop (later.length - 2), by simp, by simp at hlength ⊢; omega⟩
  obtain ⟨third, fourth, rfl⟩ := List.length_eq_two.1 hends
  have hhighs : highs.length = (f.kind :: f.tag :: f.payload).length := by simp at hlength ⊢; omega
  have hsteps : List.zipWith characterStep f.wire (first :: second :: (highs ++ [third, fourth])) ++ s.pending =
      characterStep syncByte first :: characterStep (BitVec.ofNat 8 (f.payload.length + 2)) second ::
        (List.zipWith characterStep (f.kind :: f.tag :: f.payload) highs ++
          (characterStep high third :: characterStep low fourth :: s.pending)) := by
    rw [hsplit, List.zipWith_cons_cons, List.zipWith_cons_cons, List.zipWith_append hhighs.symm]
    simp
  have hcount : f.wire.length = 1 + 1 + (f.kind :: f.tag :: f.payload).length + 1 + 1 := by
    rw [Frame.wire_length]
    simp only [List.length_cons]
    omega
  calc Host.Core.run Sys2Proof.core f.wire.length { s with
        pending := List.zipWith characterStep f.wire (first :: second :: (highs ++ [third, fourth])) ++ s.pending }
      = Host.Core.run Sys2Proof.core (1 + 1 + (f.kind :: f.tag :: f.payload).length + 1) (s.amid .length [syncByte] 0 _) := by
        rw [hsteps, hcount]
        exact run_succ (exec_sync htakes hhunt)
    _ = Host.Core.run Sys2Proof.core (1 + 1 + (f.kind :: f.tag :: f.payload).length) (s.amid .body _ _ _) :=
        run_amid (exec_amid_length htakes (by rw [hbyte]; simp) (by rw [hbyte]; simp; omega))
    _ = Host.Core.run Sys2Proof.core (1 + 1) (s.amid .check _ 2 _) := by
        rw [hbyte]
        exact run_body htakes _ _ _ (List.cons_ne_nil _ _) hhighs
    _ = Host.Core.run Sys2Proof.core 1 (s.amid .check _ 1 _) := run_amid (exec_amid_check htakes)
    _ = Host.Core.run Sys2Proof.core 0 _ := run_amid (exec_amid_last (f := f) htakes (by rw [hsplit]; simp) hroom)
    _ = _ := by
        simp only [Host.Core.run, ← hhunt, ← hframe, ← hgap]

end Sys2Proof.Machine
end

section
/-! SUPPORT. The end of a frame in transmission (R151, R153, R163) and the choice of the next one (R138, R139, R142, R160). -/

namespace Sys2Proof.Machine

open Sys2Proof

/-! ### The end of a frame -/

theorem Part.clocked_iff {p : Part} : p.clocked = true ↔ p.resetHold = .none ∧ p.refclk = true := by simp [Part.clocked]

theorem Part.frameDone_iff {p : Part} {f : Frame} : p.frameDone = some f ↔ p.clocked = true ∧ ∃ began, p.port.tx = .sending f began ∧
    frameMicros p.port.baud f ≤ (p.time - began).toNat := by
  cases htx : p.port.tx with
  | idle => simp [Part.frameDone, htx]
  | sending x began =>
    simp only [Part.frameDone, htx, Option.ite_none_right_eq_some, Bool.and_eq_true, decide_eq_true_eq, Option.some.injEq]
    constructor
    · rintro ⟨⟨hclock, htime⟩, rfl⟩
      exact ⟨hclock, began, rfl, htime⟩
    · rintro ⟨hclock, began', hsending, htime⟩
      obtain ⟨rfl, rfl⟩ := Transmitter.sending.inj hsending
      exact ⟨⟨hclock, htime⟩, rfl⟩

section
variable {p : Part} {f : Frame}

theorem Part.frameEndStep_of_none (h : p.frameDone = none) : p.frameEndStep = p := by
  simp only [Part.frameEndStep, h]

theorem Part.frameEndStep_of_reset (h : p.frameDone = some f) (hreset : f.isResetReply = true) : p.frameEndStep = p := by
  simp only [Part.frameEndStep, h, hreset, if_true]

theorem Part.frameEndStep_of_other (h : p.frameDone = some f) (hreset : f.isResetReply = false) :
    p.frameEndStep = ({ p with port := { p.port with tx := .idle } } : Part).arbitrate := by
  simp only [Part.frameEndStep, h, hreset, Bool.false_eq_true, if_false]

theorem Part.commandResetStep_of_none (inputs : BitVec 16) (h : p.frameDone = none) : p.commandResetStep inputs = p := by
  simp only [Part.commandResetStep, h]

theorem Part.commandResetStep_of_other (inputs : BitVec 16) (h : p.frameDone = some f) (hreset : f.isResetReply = false) :
    p.commandResetStep inputs = p := by
  simp only [Part.commandResetStep, h, hreset, Bool.false_eq_true, if_false]

theorem Frame.isResetReply_iff : f.isResetReply = true ↔ f.kind = 0x93#8 ∧ f.payload = [0x00#8, 0x00#8] := by
  rw [Frame.isResetReply, Bool.and_eq_true, decide_eq_true_eq, decide_eq_true_eq, resetReplyKind]

end

/-! ### The choice (R160) -/

section
variable {p : Part}

theorem nextToSend_of_split {pre post : List ReportEntry} {e : ReportEntry} (hpre : ∀ x ∈ pre, x.delivery = .sent)
    (he : e.delivery ≠ .sent) (hpost : e.delivery = .new → ∀ x ∈ post, x.delivery ≠ .resend) :
    nextToSend (pre ++ e :: post) = some e := by
  cases hd : e.delivery with
  | sent => exact absurd hd he
  | resend =>
    obtain ⟨hfind, -⟩ := find?_erase_split (f := fun x : ReportEntry => decide (x.delivery = .resend)) (pre := pre) (post := post)
      (fun x hx => by simp [hpre x hx]) (decide_eq_true hd)
    simp only [nextToSend, hfind]
  | new =>
    obtain ⟨hfind, -⟩ := find?_erase_split (f := fun x : ReportEntry => decide (x.delivery = .new)) (pre := pre) (post := post)
      (fun x hx => by simp [hpre x hx]) (decide_eq_true hd)
    have hnone : (pre ++ e :: post).find? (fun x => decide (x.delivery = .resend)) = none := by
      refine List.find?_eq_none.2 fun x hx => ?_
      obtain hx | hx := List.mem_append.1 hx
      · simp [hpre x hx]
      · obtain rfl | hx := List.mem_cons.1 hx
        · simp [hd]
        · simp [hpost hd x hx]
    simp only [nextToSend, hnone, hfind]

theorem Part.arbitrate_reply {f : Frame} {rest : List Frame} (htx : p.port.tx = .idle) (hclock : p.clocked = true)
    (hreplies : p.port.replies = f :: rest) :
    p.arbitrate = { p with port := { p.port with tx := .sending f p.time, replies := rest } } := by
  simp only [Part.arbitrate, htx, hclock, hreplies, if_true]
  rfl

theorem Part.arbitrate_report {e : ReportEntry} (htx : p.port.tx = .idle) (hclock : p.clocked = true)
    (hreplies : p.port.replies = []) (he : p.reports.eligible = some e) :
    p.arbitrate = ({ p with reports := p.reports.begin p.time e } : Part).beginFrame e.frame := by
  simp only [Part.arbitrate, htx, hclock, hreplies, he, if_true]

theorem Part.arbitrate_sending {f : Frame} {began : Time} (htx : p.port.tx = .sending f began) : p.arbitrate = p := by
  simp only [Part.arbitrate, htx]

theorem Part.arbitrate_stopped (hclock : p.clocked = false) : p.arbitrate = p := by
  cases htx : p.port.tx with
  | idle => simp only [Part.arbitrate, htx, hclock, Bool.false_eq_true, if_false]
  | sending f began => exact Part.arbitrate_sending htx

theorem Part.arbitrate_nothing (hreplies : p.port.replies = []) (he : p.reports.eligible = none) : p.arbitrate = p := by
  cases htx : p.port.tx with
  | sending f began => exact Part.arbitrate_sending htx
  | idle =>
    cases hclock : p.clocked with
    | false => exact Part.arbitrate_stopped hclock
    | true => simp only [Part.arbitrate, htx, hclock, hreplies, he, if_true]

theorem Reporter.eligible_eq_none {r : Reporter} (h : r.link = .lost ∨ 8 ≤ sentCount r.queue ∨
    ∀ x ∈ r.queue, x.delivery = .sent) : r.eligible = none := by
  refine Option.not_isSome_iff_eq_none.1 fun hsome => ?_
  obtain ⟨hup, hfew, e, he, hunsent⟩ := Reporter.eligible_isSome.1 hsome
  obtain hlost | hmany | hsent := h
  · exact nomatch hup.symm.trans hlost
  · omega
  · exact hunsent (hsent e he)

end

/-- Settles O13: the end by `Part.frameDone_iff`, the choice by what waits. -/
theorem frameEndChoosesNextFrame : Obligations.FrameEndChoosesNextFrame := by
  refine ⟨fun p f => Part.frameDone_iff.trans ?_, fun f => Frame.isResetReply_iff, fun s h => ⟨?_, fun inputs => ?_⟩,
    fun s f h => ⟨fun hreset => ?_, fun hreset inputs => ?_⟩, fun s f h hreset => ?_,
    fun p f rest htx hclock hreplies => Part.arbitrate_reply htx hclock hreplies, ?_, ?_,
    fun p f began htx => Part.arbitrate_sending htx, fun p hclock => Part.arbitrate_stopped hclock, fun p => Part.clocked_iff⟩
  · exact .rfl
  · exact congrArg (fun p => Host.Outcome.next (s.withPart p)) (Part.frameEndStep_of_none h)
  · exact congrArg (fun p => Host.Outcome.next (s.withPart p)) (Part.commandResetStep_of_none inputs h)
  · exact congrArg (fun p => Host.Outcome.next (s.withPart p)) (Part.frameEndStep_of_reset h hreset)
  · exact congrArg (fun p => Host.Outcome.next (s.withPart p)) (Part.commandResetStep_of_other inputs h hreset)
  · exact congrArg (fun p => Host.Outcome.next (s.withPart p)) (Part.frameEndStep_of_other h hreset)
  · intro p e pre post htx hclock hreplies hup hfew hqueue hpre he hpost
    have hnext : nextToSend p.reports.queue = some e := hqueue ▸ nextToSend_of_split hpre he hpost
    have heligible : p.reports.eligible = some e := (if_pos ⟨hup, hfew⟩).trans hnext
    rw [Part.arbitrate_report htx hclock hreplies heligible]
    have hmarked : markSent e.seq p.reports.queue = pre ++ { e with delivery := .sent } :: post := by
      rw [hqueue, markSent_split hpre he]
    simp only [Reporter.begin, hmarked, Reporter.intervalMicros, Part.beginFrame]
  · intro p _ hreplies hnothing
    exact Part.arbitrate_nothing hreplies (Reporter.eligible_eq_none hnothing)

end Sys2Proof.Machine
end

section
/-! SUPPORT. Steps in general (the queue, ill-formed terms), the state after reset, and the filtering of samples (R33). -/

namespace Sys2Proof.Machine

open Sys2Proof

/-! ### The queue of waiting steps -/

/-- Settles O1. -/
theorem stepRunsFrontOfQueue : Obligations.StepRunsFrontOfQueue := fun _ _ _ => rfl

/-- A step completes and keeps the queue when what it names exists, and is refused by name otherwise. -/
def Completes (s : State) (o : Host.Outcome State Fault Refusal) (ok : Bool) : Prop :=
  (ok = true → ∃ t, o = .next t ∧ t.pending = s.pending) ∧
    (ok = false → o = .refused .noSuchLine ∨ o = .refused .noSuchJob)

theorem Completes.next (s : State) (p : Part) : Completes s (.next (s.withPart p)) true :=
  ⟨fun _ => ⟨_, rfl, rfl⟩, fun h => nomatch h⟩

theorem Completes.ofJob {s : State} {o : Host.Outcome State Fault Refusal} {job : Nat}
    (hnone : jobOfNumber job = none → o = .refused .noSuchJob)
    (hsome : ∀ j, jobOfNumber job = some j → ∃ p, o = .next (s.withPart p)) : Completes s o (jobNumberOk job) := by
  refine ⟨fun hok => ?_, fun hok => .inr (hnone (by simp [jobOfNumber, hok]))⟩
  obtain ⟨p, rfl⟩ := hsome _ (if_pos hok)
  exact ⟨_, rfl, rfl⟩

theorem Completes.ofLine {s : State} {o : Host.Outcome State Fault Refusal} {line : Nat}
    (hnone : inputOfNumber line = none → o = .refused .noSuchLine)
    (hsome : ∀ i, inputOfNumber line = some i → ∃ p, o = .next (s.withPart p)) : Completes s o (inputLineOk line) := by
  refine ⟨fun hok => ?_, fun hok => .inl (hnone (by simp [inputOfNumber, hok]))⟩
  obtain ⟨p, rfl⟩ := hsome _ (if_pos hok)
  exact ⟨_, rfl, rfl⟩

/-- Settles O3, row by row. -/
theorem stepsCompleteAndKeepQueue : Obligations.StepsCompleteAndKeepQueue := by
  intro i s
  change Completes s (exec i s) (wellFormed i)
  cases i with
  | changeUnderFiltering line level =>
    exact .ofLine (fun h => by simp only [exec, execChangeUnderFiltering, h])
      fun i h => ⟨_, by simp only [exec, execChangeUnderFiltering, h]; rfl⟩
  | edgeAcceptance line =>
    exact .ofLine (fun h => by simp only [exec, execEdgeAcceptance, h])
      fun i h => ⟨_, by simp only [exec, execEdgeAcceptance, h]; rfl⟩
  | edgeDelivery job =>
    exact .ofJob (fun h => by simp only [exec, execEdgeDelivery, h]) fun j h => ⟨_, by simp only [exec, execEdgeDelivery, h]; rfl⟩
  | activePhaseEvent job =>
    exact .ofJob (fun h => by simp only [exec, execActivePhaseEvent, h])
      fun j h => ⟨_, by simp only [exec, execActivePhaseEvent, h]; rfl⟩
  | periodEnd job =>
    exact .ofJob (fun h => by simp only [exec, execPeriodEnd, h]) fun j h => ⟨_, by simp only [exec, execPeriodEnd, h]; rfl⟩
  | pulseEnd job =>
    exact .ofJob (fun h => by simp only [exec, execPulseEnd, h]) fun j h => ⟨_, by simp only [exec, execPulseEnd, h]; rfl⟩
  | turnEnd job =>
    exact .ofJob (fun h => by simp only [exec, execTurnEnd, h]) fun j h => ⟨_, by simp only [exec, execTurnEnd, h]; rfl⟩
  | lossPolicy job =>
    exact .ofJob (fun h => by simp only [exec, execLossPolicy, h]) fun j h => ⟨_, by simp only [exec, execLossPolicy, h]; rfl⟩
  | _ => exact .next s _

/-! ### The state after reset -/

theorem Part.reset_jobs (j : JobId) : Part.reset.jobs[j] = Job.free := by simp [Part.reset]

theorem Part.reset_inputs (i : InId) : Part.reset.inputs[i] = InputLine.fresh .low := by simp [Part.reset]

theorem Part.reset_outputs (o : OutId) : Part.reset.outputs[o] = OutputLine.fresh := by simp [Part.reset]

theorem Part.reset_cells (c : CellId) : Part.reset.cells[c] = Cell.free := by simp [Part.reset]

/-- Settles O4. -/
theorem resetStateValues : Obligations.ResetStateValues :=
  ⟨rfl, rfl, rfl, Part.reset_inputs, Part.reset_outputs, Part.reset_cells, Part.reset_jobs, rfl, rfl, rfl, rfl, rfl⟩

/-- Settles O53: each law is about finitely many jobs, lines, cells and entries of one concrete state. -/
theorem soundAtReset : Obligations.SoundAtReset := by
  refine ⟨⟨by decide +kernel, by decide +kernel, by decide +kernel, ⟨by decide +kernel, fun o j hj => ?_⟩, by decide +kernel,
    by decide +kernel, by decide +kernel⟩, by decide +kernel⟩
  rw [show State.reset.jobs[j] = Job.free from Part.reset_jobs j] at hj
  exact absurd hj (by decide)

/-! ### Samples (R33) -/

section
variable {p : Part} {i : InId} {c : LineChange} {level : Level}

theorem acceptanceDue_of_change {l : InputLine} {now : Time} (h : l.change = some c) :
    acceptanceDue now l = reached now (plus c.firstSeen c.filterTime) := by
  simp only [acceptanceDue, h]

theorem Part.acceptDue_reached (h : p.inputs[i].change = some c) (hdue : reached p.time (plus c.firstSeen c.filterTime) = true) :
    p.acceptDue i = p.acceptChange i c := by
  simp only [Part.acceptDue, h, acceptanceDue_of_change h, hdue, if_true]

theorem Part.acceptDue_idle (h : ∀ c, p.inputs[i].change = some c → reached p.time (plus c.firstSeen c.filterTime) = false) :
    p.acceptDue i = p := by
  cases hc : p.inputs[i].change with
  | none => simp only [Part.acceptDue, hc]
  | some c => simp only [Part.acceptDue, hc, acceptanceDue_of_change hc, h c hc, Bool.false_eq_true, if_false]

theorem Part.acceptChange_change : (p.acceptChange i c).inputs[i].change = none := by
  simp [Part.acceptChange]

theorem Part.compareSample_filtered (h : level = p.inputs[i].filtered) :
    p.compareSample i level = p.setInput i { p.inputs[i] with change := none } := if_pos h

theorem Part.compareSample_changing (h : level ≠ p.inputs[i].filtered) (hc : p.inputs[i].change ≠ none) :
    p.compareSample i level = p := by
  obtain ⟨c, hc⟩ := Option.ne_none_iff_exists'.1 hc
  refine (if_neg h).trans ?_
  simp only [hc]

theorem Part.compareSample_unfiltered (h : level ≠ p.inputs[i].filtered) (hc : p.inputs[i].change = none)
    (hfilter : p.inputs[i].filter = 0) : p.compareSample i level = p.acceptChange i (startedChange level p.time 0) := by
  refine (if_neg h).trans ?_
  simp only [hc, hfilter, if_true]

theorem Part.compareSample_starts (h : level ≠ p.inputs[i].filtered) (hc : p.inputs[i].change = none)
    (hfilter : p.inputs[i].filter ≠ 0) : p.compareSample i level =
      p.setInput i { p.inputs[i] with change := some (startedChange level p.time p.inputs[i].filter) } := by
  refine (if_neg h).trans ?_
  simp only [hc, if_neg hfilter]

end

theorem exec_edgeAcceptance {s : State} (i : InId) (hclock : s.clocked = true) :
    exec (.edgeAcceptance i.val) s = .next (s.withPart (s.toPart.acceptDue i)) := by
  simp only [exec, execEdgeAcceptance, inputOfNumber_val, hclock, if_true]
  rfl

theorem exec_changeUnderFiltering {s : State} (i : InId) (level : Level) (hclock : s.clocked = true) :
    exec (.changeUnderFiltering i.val level) s = .next (s.withPart (s.toPart.sampleLine i level)) := by
  simp only [exec, execChangeUnderFiltering, inputOfNumber_val, hclock, if_true]
  rfl

/-- Settles O38: a change whose time has come first, then the comparison. -/
theorem sampleFiltering : Obligations.SampleFiltering := by
  intro s i level hclock
  rw [exec_edgeAcceptance i hclock, exec_changeUnderFiltering i level hclock]
  refine ⟨fun c hc hdue => ⟨?_, ?_⟩, fun hidle => ?_⟩
  · rw [Part.acceptDue_reached hc hdue]
  · have hdone : (s.acceptChange i c).acceptDue i = s.acceptChange i c :=
      Part.acceptDue_idle fun x hx => nomatch Part.acceptChange_change.symm.trans hx
    have hclock' : (s.withPart (s.acceptChange i c)).clocked = true := hclock
    rw [exec_changeUnderFiltering i level hclock']
    change Host.Outcome.next (s.withPart ((s.toPart.acceptDue i).compareSample i level)) =
      .next (s.withPart (((s.acceptChange i c).acceptDue i).compareSample i level))
    rw [Part.acceptDue_reached hc hdue, hdone]
  · rw [Part.sampleLine, Part.acceptDue_idle hidle]
    refine ⟨rfl, fun h => ?_, fun h hc => ?_, fun h hc hfilter => ?_, fun h hc hfilter => ?_⟩
    · rw [Part.compareSample_filtered h]
      rfl
    · rw [Part.compareSample_changing h hc]
      rfl
    · rw [Part.compareSample_unfiltered h hc hfilter]
      rfl
    · rw [Part.compareSample_starts h hc hfilter]
      rfl

end Sys2Proof.Machine
end

section
/-! SUPPORT. The three resets (R29, R44, R163), the stop and return of REFCLK (R30), and gaps, breaks and the wait for RXD high
(R151, R155, R156). -/

namespace Sys2Proof.Machine

open Sys2Proof

/-! ### The tables after a reset -/

theorem freshInputs_line (inputs : BitVec 16) (i : InId) : (freshInputs inputs)[i] =
    { filter := 2, filtered := if inputs.getLsbD i.val then .high else .low, change := none } := by
  simp [freshInputs, InputLine.fresh, levelOfBit, Config.defaultFilter]

theorem replicate_line {α : Type} {n : Nat} (x : α) (i : Fin n) : (Vector.replicate n x)[i] = x := by simp

/-- Settles O5. -/
theorem commandResetExecutes : Obligations.CommandResetExecutes := by
  intro s f inputs hdone hreset
  refine ⟨s.withPart (s.commandReset inputs),
    congrArg (fun p => Host.Outcome.next (s.withPart p)) (Part.commandResetStep_of_resetReply hdone hreset inputs), ?_⟩
  simp only [State.withPart, Part.commandReset, freshInputs_line, replicate_line, implies_true, true_and, and_true]
  exact ⟨fun _ => rfl, rfl, rfl, rfl, rfl, rfl, rfl, rfl, rfl, rfl, rfl, rfl⟩

/-! ### Pin and power-on resets (R44) -/

section
variable {p : Part} {straps : BitVec 2} {inputs : BitVec 16}

theorem Part.inReset_discarded {hold : ResetHold} (h : hold ≠ .none) : (p.inReset hold).discarded := by
  refine ⟨rfl, ?_, replicate_line _, replicate_line _, replicate_line _, rfl, rfl, rfl, rfl, rfl, rfl, rfl, rfl, rfl, rfl⟩
  rw [← Bool.not_eq_true, Part.clocked_iff]
  exact fun hclock => h hclock.1

theorem Baud.ofStraps_eq (straps : BitVec 2) : Baud.ofStraps straps = if straps = 0#2 then .b115200
    else if straps = 1#2 then .b230400 else if straps = 2#2 then .b460800 else .b921600 := by
  revert straps
  decide

theorem Part.complete_restarted (cause : ResetCause) : (p.complete cause straps inputs).restarted cause straps inputs :=
  ⟨rfl, rfl, Baud.ofStraps_eq straps, freshInputs_line inputs, replicate_line _, replicate_line _, replicate_line _, rfl, rfl, rfl⟩

theorem Part.pinResetStep_free (h : p.resetHold = .none) : p.pinResetStep = { p.inReset .pin with resetN := .low } := by
  simp only [Part.pinResetStep, h]

theorem Part.pinResetStep_held (h : p.resetHold ≠ .none) : p.pinResetStep = { p with resetN := .low } := by
  unfold Part.pinResetStep
  split
  · exact absurd ‹_› h
  all_goals rfl

theorem Part.pinCompletionStep_pin (h : p.resetHold = .pin) :
    p.pinCompletionStep straps inputs = { p.complete .pin straps inputs with resetN := .high } := by
  simp only [Part.pinCompletionStep, h]

theorem Part.pinCompletionStep_waiting (h : p.resetHold = .powerWaiting) :
    p.pinCompletionStep straps inputs = { p.complete .power straps inputs with resetN := .high } := by
  simp only [Part.pinCompletionStep, h]

theorem Part.pinCompletionStep_other (h : p.resetHold = .none ∨ p.resetHold = .power) :
    p.pinCompletionStep straps inputs = { p with resetN := .high } := by
  obtain h | h := h <;> simp only [Part.pinCompletionStep, h]

theorem Part.powerCompletionStep_of_low (hhold : p.resetHold = .power) (hpin : p.resetN = .low) :
    p.powerCompletionStep straps inputs = { p with resetHold := .powerWaiting } := by
  simp only [Part.powerCompletionStep, hhold, hpin]

theorem Part.powerCompletionStep_other (h : p.resetHold ≠ .power) : p.powerCompletionStep straps inputs = p := by
  cases hhold : p.resetHold with
  | power => exact absurd hhold h
  | _ => simp only [Part.powerCompletionStep, hhold]

end

section
variable {s : State} {straps : BitVec 2} {inputs : BitVec 16}

theorem exec_pinReset : exec .pinReset s = .next (s.withPart s.toPart.pinResetStep) := rfl

theorem exec_pinResetCompletion : exec (.pinResetCompletion straps inputs) s =
    .next (s.withPart (s.toPart.pinCompletionStep straps inputs)) := rfl

theorem exec_powerOnReset : exec .powerOnReset s = .next (s.withPart s.toPart.powerOnStep) := rfl

theorem exec_powerOnResetCompletion : exec (.powerOnResetCompletion straps inputs) s =
    .next (s.withPart (s.toPart.powerCompletionStep straps inputs)) := rfl

theorem exec_commandResetExecution : exec (.commandResetExecution inputs) s =
    .next (s.withPart (s.toPart.commandResetStep inputs)) := rfl

end

/-- Settles O6, by the reset that holds the part and the level of RESET_N. -/
theorem pinAndPowerOnResets : Obligations.PinAndPowerOnResets := by
  refine ⟨fun s h => ?_, fun s h => ?_, fun s straps inputs h => ?_, fun s straps inputs h => ?_, fun s straps inputs h => ?_,
    fun s => ⟨_, rfl, Part.inReset_discarded (hold := .power) (by decide), rfl, rfl, rfl, rfl⟩, fun s straps inputs h hpin => ?_,
    fun s straps inputs h hpin => ?_, fun s straps inputs h => ?_⟩
  · rw [exec_pinReset, Part.pinResetStep_free h]
    exact ⟨_, rfl, Part.inReset_discarded (hold := .pin) (by decide), rfl, rfl, rfl, rfl⟩
  · rw [exec_pinReset, Part.pinResetStep_held h]
    rfl
  · rw [exec_pinResetCompletion, Part.pinCompletionStep_pin h]
    exact ⟨_, rfl, Part.complete_restarted .pin, rfl, rfl, rfl⟩
  · rw [exec_pinResetCompletion, Part.pinCompletionStep_waiting h]
    exact ⟨_, rfl, Part.complete_restarted .power, rfl, rfl, rfl⟩
  · rw [exec_pinResetCompletion, Part.pinCompletionStep_other h]
    rfl
  · rw [exec_powerOnResetCompletion, Part.powerCompletionStep_of_high h hpin]
    exact ⟨_, rfl, Part.complete_restarted .power, hpin, rfl, rfl⟩
  · rw [exec_powerOnResetCompletion, Part.powerCompletionStep_of_low h hpin]
    rfl
  · rw [exec_powerOnResetCompletion, Part.powerCompletionStep_other h]
    rfl

/-! ### REFCLK (R30) -/

theorem jobNumberOk_iff {job : Nat} : jobNumberOk job = true ↔ ∃ j : JobId, job = j.val + 1 := by
  simp only [jobNumberOk, Bool.and_eq_true, decide_eq_true_eq]
  constructor
  · rintro ⟨hlow, hhigh⟩
    exact ⟨⟨job - 1, by omega⟩, by simp; omega⟩
  · rintro ⟨j, rfl⟩
    omega

theorem inputLineOk_iff {line : Nat} : inputLineOk line = true ↔ ∃ i : InId, line = i.val := by
  simp only [inputLineOk, decide_eq_true_eq]
  exact ⟨fun h => ⟨⟨line, h⟩, rfl⟩, fun ⟨i, hi⟩ => hi ▸ i.isLt⟩

section
variable {s : State}

theorem Part.dueFor_of_stopped {p : Part} (h : p.clocked = false) (purpose : Purpose) : p.dueFor purpose = none := by
  cases hs : p.schedule <;> simp [Part.dueFor, Part.dueEntry, hs, h]

theorem State.not_times_of_stopped {j : JobId} {d : Definition} {ph : CellPhase} (h : s.clocked = false) : ¬ s.Times j d ph :=
  fun htimes => Bool.false_ne_true (h.symm.trans htimes.1)

theorem Part.takesCharacter_of_stopped {p : Part} (h : p.clocked = false) (high : Nat) : p.takesCharacter high = false := by
  simp only [Part.takesCharacter, h, Bool.false_and]

theorem Part.timerDue_of_stopped {p : Part} (h : p.clocked = false) : p.timerDue = false :=
  Bool.eq_false_iff.2 fun hdue => by
    obtain ⟨t, hclock, -⟩ := Part.timerDue_iff.1 hdue
    exact Bool.false_ne_true (h.symm.trans hclock)

theorem Part.gapDue_of_stopped {p : Part} (h : p.clocked = false) : p.gapDue = false :=
  Bool.eq_false_iff.2 fun hdue => by
    obtain ⟨t, hclock, -⟩ := Part.gapDue_iff.1 hdue
    exact Bool.false_ne_true (h.symm.trans hclock)

theorem Part.frameDone_of_stopped {p : Part} (h : p.clocked = false) : p.frameDone = none :=
  Option.eq_none_iff_forall_ne_some.2 fun _ hdone =>
    Bool.false_ne_true (h.symm.trans (Part.frameDone_iff.1 hdone).1)

theorem Part.gapStep_idle {p : Part} (h : p.gapDue = false) : p.gapStep = p := by
  simp only [Part.gapStep, h, Bool.false_eq_true, if_false]

theorem Part.breakStep_idle {p : Part} (h : (p.refclk && !p.port.inBreak) = false) : p.breakStep = p := by
  simp only [Part.breakStep, h, Bool.false_eq_true, if_false]

theorem Part.breakEndStep_idle {p : Part} (h : (p.refclk && p.port.inBreak) = false) : p.breakEndStep = p := by
  simp only [Part.breakEndStep, h, Bool.false_eq_true, if_false]

/-- A step that leaves the part as it is. -/
theorem next_withPart_self {p : Part} (h : p = s.toPart) : Host.Outcome.next (φ := Fault) (ρ := Refusal) (s.withPart p) = .next s := by
  rw [h]
  rfl

end

/-- Settles O8: while the clock stands no event that runs by it is due. -/
theorem referenceClockStopsAndReturns : Obligations.ReferenceClockStopsAndReturns := by
  refine ⟨fun s => rfl, fun i s hi hstop => ?_, fun s => rfl⟩
  have hclock : s.clocked = false := by
    rw [← Bool.not_eq_true, Part.clocked_iff]
    exact fun h => Bool.false_ne_true (hstop.symm.trans h.2)
  have hdeadline (r : Instr × Purpose) (hr : r ∈ deadlineRows) : exec r.1 s = .next s :=
    (exec_deadlineRow s r hr).trans (next_withPart_self (Part.deadlineStep_idle (Part.dueFor_of_stopped hclock _)))
  cases i with
  | changeUnderFiltering line level =>
    obtain ⟨i, rfl⟩ := inputLineOk_iff.1 hi
    simp only [exec, execChangeUnderFiltering, inputOfNumber_val, hclock, Bool.false_eq_true, if_false]
  | edgeAcceptance line =>
    obtain ⟨i, rfl⟩ := inputLineOk_iff.1 hi
    simp only [exec, execEdgeAcceptance, inputOfNumber_val, hclock, Bool.false_eq_true, if_false]
  | expiry => exact hdeadline (.expiry, .expiry) (by simp [deadlineRows])
  | tick => exact hdeadline (.tick, .tick) (by simp [deadlineRows])
  | stall => exact hdeadline (.stall, .stall) (by simp [deadlineRows])
  | windowEnd => exact hdeadline (.windowEnd, .window) (by simp [deadlineRows])
  | echoDue => exact hdeadline (.echoDue, .echoDue) (by simp [deadlineRows])
  | activePhaseEvent job =>
    obtain ⟨j, rfl⟩ := jobNumberOk_iff.1 hi
    refine activePhaseEvent_idle fun v g t h => ?_
    obtain ⟨d, ph, htimes, -⟩ := State.wavePhaseDue_iff.1 h
    exact State.not_times_of_stopped hclock htimes
  | periodEnd job =>
    obtain ⟨j, rfl⟩ := jobNumberOk_iff.1 hi
    refine periodEnd_idle fun v g t h => ?_
    obtain ⟨d, ph, htimes, -⟩ := State.wavePhaseDue_iff.1 h
    exact State.not_times_of_stopped hclock htimes
  | pulseEnd job =>
    obtain ⟨j, rfl⟩ := jobNumberOk_iff.1 hi
    refine pulseEnd_idle fun x g t h => ?_
    obtain ⟨d, ph, htimes, -⟩ := State.pulseDue_iff.1 h
    exact State.not_times_of_stopped hclock htimes
  | turnEnd job =>
    obtain ⟨j, rfl⟩ := jobNumberOk_iff.1 hi
    refine turnEnd_idle fun v g h => ?_
    obtain ⟨d, ph, htimes, -⟩ := State.turnDue_iff.1 h
    exact State.not_times_of_stopped hclock htimes
  | retransmitTimerExpiry => exact next_withPart_self (Part.timerStep_idle (Part.timerDue_of_stopped hclock))
  | byteReceived c => exact exec_byteReceived_idle (.inl (Part.takesCharacter_of_stopped hclock c.high))
  | gapExpiry => exact next_withPart_self (Part.gapStep_idle (Part.gapDue_of_stopped hclock))
  | breakSeen => exact next_withPart_self (Part.breakStep_idle (by rw [hstop]; rfl))
  | breakEnd => exact next_withPart_self (Part.breakEndStep_idle (by rw [hstop]; rfl))
  | txFrameEnd => exact next_withPart_self (Part.frameEndStep_of_none (Part.frameDone_of_stopped hclock))
  | commandResetExecution inputs =>
    exact next_withPart_self (Part.commandResetStep_of_none inputs (Part.frameDone_of_stopped hclock))
  | _ => exact nomatch hi

/-! ### Gaps and breaks (R151, R155, R156) -/

section
variable {p : Part} {straps : BitVec 2} {inputs : BitVec 16}

theorem Part.gapStep_due (h : p.gapDue = true) :
    p.gapStep = (p.setReceiver .hunt).setErrors { p.port.errors with gap := satSucc 65535 p.port.errors.gap } := if_pos h

theorem Part.breakStep_counts (hclock : p.clocked = true) (hbreak : p.port.inBreak = false) (hopen : p.port.rxState ≠ .closed) :
    p.breakStep = ((p.setBreak true).setReceiver .hunt).setErrors
      { p.port.errors with breaks := satSucc 65535 p.port.errors.breaks } := by
  simp only [Part.breakStep, (Part.clocked_iff.1 hclock).2, hbreak, hclock, hopen, decide_false, Bool.not_true, Bool.not_false,
    Bool.or_self, Bool.and_self, Bool.false_eq_true, if_true, if_false]

theorem Part.breakStep_silent (hclk : p.refclk = true) (hbreak : p.port.inBreak = false)
    (h : p.clocked = false ∨ p.port.rxState = .closed) : p.breakStep = p.setBreak true := by
  have hquiet : (!p.clocked || decide (p.port.rxState = .closed)) = true := by
    obtain h | h := h <;> simp [h]
  simp only [Part.breakStep, hclk, hbreak, hquiet, Bool.not_false, Bool.and_self, if_true]

theorem Part.breakEndStep_waits (hclock : p.clocked = true) (hbreak : p.port.inBreak = true) :
    p.breakEndStep = (p.setBreak false).awaitHigh (plus p.time (quietCharacterMicros p.port.baud)) := by
  simp only [Part.breakEndStep, (Part.clocked_iff.1 hclock).2, hbreak, hclock, Bool.and_self, if_true]

theorem Part.breakEndStep_held (hhold : p.resetHold ≠ .none) (hclk : p.refclk = true) (hbreak : p.port.inBreak = true) :
    p.breakEndStep = p.setBreak false := by
  have hclock : p.clocked = false := by simp [Part.clocked, hhold]
  simp only [Part.breakEndStep, hclk, hbreak, hclock, Bool.and_self, Bool.false_eq_true, if_true, if_false]

theorem Part.clocked_of_held (h : p.resetHold ≠ .none) : p.clocked = false := by simp [Part.clocked, h]

theorem Part.takesCharacter_iff {high : Nat} : p.takesCharacter high = true ↔ p.clocked = true ∧ p.port.inBreak = false ∧
    (p.port.rxAwaitsHigh = true → 10 * 8000000 ≤ high * p.port.baud.rate) ∧
    ∀ t, p.port.rxReadyAt = some t → reached p.time t = true := by
  cases hready : p.port.rxReadyAt <;> cases hawaits : p.port.rxAwaitsHigh <;>
    simp [Part.takesCharacter, hready, hawaits, highForCharacter, and_assoc]

/-! A break lasts over every reset. -/

theorem Part.pinResetStep_inBreak : p.pinResetStep.port.inBreak = p.port.inBreak := by
  unfold Part.pinResetStep
  split <;> rfl

theorem Part.pinCompletionStep_inBreak : (p.pinCompletionStep straps inputs).port.inBreak = p.port.inBreak := by
  unfold Part.pinCompletionStep
  split <;> rfl

theorem Part.powerCompletionStep_inBreak : (p.powerCompletionStep straps inputs).port.inBreak = p.port.inBreak := by
  unfold Part.powerCompletionStep
  split <;> rfl

theorem Part.commandResetStep_inBreak : (p.commandResetStep inputs).port.inBreak = p.port.inBreak := by
  unfold Part.commandResetStep
  split
  · rfl
  · split <;> rfl

/-! Only a completion ends the hold, and it begins a wait. -/

/-- The wait of R151 as the completion of a reset begins it. -/
def Port.AwaitsFirst (q : Port) : Prop :=
  q.rxAwaitsHigh = true ∧ q.rxReadyAt = some (plus 0#48 (9500000 / q.baud.rate))

theorem Part.complete_awaits (cause : ResetCause) : (p.complete cause straps inputs).port.AwaitsFirst := ⟨rfl, rfl⟩

theorem Part.pinCompletionStep_awaits (hhold : p.resetHold ≠ .none) (hdone : (p.pinCompletionStep straps inputs).resetHold = .none) :
    (p.pinCompletionStep straps inputs).port.AwaitsFirst := by
  cases h : p.resetHold with
  | none => exact absurd h hhold
  | pin =>
    rw [Part.pinCompletionStep_pin h]
    exact Part.complete_awaits (p := p) (straps := straps) (inputs := inputs) .pin
  | powerWaiting =>
    rw [Part.pinCompletionStep_waiting h]
    exact Part.complete_awaits (p := p) (straps := straps) (inputs := inputs) .power
  | power =>
    rw [Part.pinCompletionStep_other (.inr h)] at hdone
    exact absurd hdone hhold

theorem Part.powerCompletionStep_awaits (hhold : p.resetHold ≠ .none)
    (hdone : (p.powerCompletionStep straps inputs).resetHold = .none) :
    (p.powerCompletionStep straps inputs).port.AwaitsFirst := by
  by_cases h : p.resetHold = .power
  · cases hpin : p.resetN with
    | high =>
      rw [Part.powerCompletionStep_of_high h hpin]
      exact Part.complete_awaits .power
    | low =>
      rw [Part.powerCompletionStep_of_low h hpin] at hdone
      exact nomatch hdone
  · rw [Part.powerCompletionStep_other h] at hdone
    exact absurd hdone hhold

theorem Part.commandReset_readyAt : (p.commandReset inputs).port.rxReadyAt = some p.readyAfterReset := rfl

theorem Part.readyAfterReset_none (h : p.port.rxReadyAt = none) :
    p.readyAfterReset = plus p.time (9500000 / p.port.baud.rate) := by
  simp only [Part.readyAfterReset, h, characterMicros]

theorem Part.readyAfterReset_some {x : Time} (h : p.port.rxReadyAt = some x) : p.readyAfterReset =
    if earlier (plus p.time (9500000 / p.port.baud.rate)) x then x else plus p.time (9500000 / p.port.baud.rate) := by
  simp only [Part.readyAfterReset, h]
  rfl

end

/-- Settles O12, clause by clause. -/
theorem gapsAndBreaksAbandonFrames : Obligations.GapsAndBreaksAbandonFrames := by
  refine ⟨fun s t hclock hstate ht => ⟨fun hdue => ?_, fun hlater => ?_⟩, fun s h => ?_, fun s hclock hbreak hopen => ?_,
    fun s hclock hbreak hclosed => ?_, fun s hbreak => ⟨?_, fun c => ?_⟩, fun s hhold hclk hbreak => ?_,
    fun s hbreak => ⟨fun hclock => ?_, fun hhold hclk => ?_, fun hstop => ?_⟩, fun s t straps inputs h => ?_,
    fun s t straps inputs hhold hdone h => ?_, fun s hbreak => ?_, fun s high => Part.takesCharacter_iff,
    fun s c h => exec_byteReceived_idle h, fun s b high htakes hopen => ?_, fun s f inputs u hdone hreset hu => ?_⟩
  · have hgap : s.gapDue = true := Part.gapDue_iff.2 ⟨t, hclock, ht, hdue, hstate⟩
    exact congrArg (fun p => Host.Outcome.next (s.withPart p)) (Part.gapStep_due hgap)
  · refine next_withPart_self (Part.gapStep_idle (Bool.eq_false_iff.2 fun hgap => ?_))
    obtain ⟨t', -, ht', hreached, -⟩ := Part.gapDue_iff.1 hgap
    obtain rfl := Option.some.inj (ht.symm.trans ht')
    exact Bool.false_ne_true (hlater.symm.trans hreached)
  · refine next_withPart_self (Part.gapStep_idle (Bool.eq_false_iff.2 fun hgap => ?_))
    obtain ⟨t, -, ht, -, hstate⟩ := Part.gapDue_iff.1 hgap
    obtain h | h | h := h
    · exact nomatch h.symm.trans ht
    all_goals simp [h] at hstate
  · exact congrArg (fun p => Host.Outcome.next (s.withPart p)) (Part.breakStep_counts hclock hbreak hopen)
  · exact congrArg (fun p => Host.Outcome.next (s.withPart p))
      (Part.breakStep_silent (Part.clocked_iff.1 hclock).2 hbreak (.inr hclosed))
  · exact next_withPart_self (Part.breakStep_idle (by rw [hbreak, Bool.not_true, Bool.and_false]))
  · refine exec_byteReceived_idle (.inl (Bool.eq_false_iff.2 fun htakes => ?_))
    obtain ⟨-, hno, -⟩ := Part.takesCharacter_iff.1 htakes
    exact Bool.false_ne_true (hno.symm.trans hbreak)
  · exact congrArg (fun p => Host.Outcome.next (s.withPart p))
      (Part.breakStep_silent hclk hbreak (.inl (Part.clocked_of_held hhold)))
  · exact congrArg (fun p => Host.Outcome.next (s.withPart p)) (Part.breakEndStep_waits hclock hbreak)
  · exact congrArg (fun p => Host.Outcome.next (s.withPart p)) (Part.breakEndStep_held hhold hclk hbreak)
  · exact next_withPart_self (Part.breakEndStep_idle (by rw [hstop, Bool.false_and]))
  · rw [exec_pinReset, exec_powerOnReset, exec_pinResetCompletion, exec_powerOnResetCompletion, exec_commandResetExecution] at h
    simp only [Host.Outcome.next.injEq] at h
    obtain rfl | rfl | rfl | rfl | rfl := h
    · exact Part.pinResetStep_inBreak
    · rfl
    · exact Part.pinCompletionStep_inBreak
    · exact Part.powerCompletionStep_inBreak
    · exact Part.commandResetStep_inBreak
  · rw [exec_pinResetCompletion, exec_powerOnResetCompletion] at h
    simp only [Host.Outcome.next.injEq] at h
    obtain rfl | rfl := h
    · exact Part.pinCompletionStep_awaits hhold hdone
    · exact Part.powerCompletionStep_awaits hhold hdone
  · exact next_withPart_self (Part.breakEndStep_idle (by rw [hbreak, Bool.and_false]))
  · have hstep : s.toPart.byteStep ⟨b, .low, high⟩ = s.endHighWait := by simp [Part.byteStep, htakes, hopen]
    exact congrArg (fun p => Host.Outcome.next (s.withPart p)) hstep
  · refine ⟨s.withPart (s.commandReset inputs),
      congrArg (fun p => Host.Outcome.next (s.withPart p)) (Part.commandResetStep_of_resetReply hdone hreset inputs), rfl,
      fun h => ?_, fun x h => ?_⟩
    · refine (Part.commandReset_readyAt (p := s.toPart)).trans ?_
      rw [Part.readyAfterReset_none h, hu]
    · refine (Part.commandReset_readyAt (p := s.toPart)).trans ?_
      rw [Part.readyAfterReset_some h, ← hu]
      by_cases hearlier : earlier u x = true
      · have hlt := earlier_iff.1 hearlier
        rw [if_pos hearlier, if_pos ⟨Nat.pos_of_ne_zero hlt.1, hlt.2⟩]
      · rw [if_neg hearlier, if_neg fun hlt => hearlier (earlier_iff.2 ⟨hlt.1.ne', hlt.2⟩)]

end Sys2Proof.Machine
end

section
/-! SUPPORT. Device times against the present: how far ahead a time lies, and the schedule in that order (R31, R80). -/

namespace Sys2Proof.Machine

open Sys2Proof

/-! ### How far ahead a time lies (R31) -/

theorem eq_of_ahead_eq_zero {now t : Time} (h : ahead now t = 0) : t = now := by
  rw [ahead_eq] at h
  have hsub := BitVec.toNat_sub t now
  have := t.isLt
  have := now.isLt
  refine BitVec.eq_of_toNat_eq ?_
  split at h <;> omega

theorem ahead_now_plus {now : Time} {n : Nat} (h : n < 2 ^ 47) : ahead now (plus now n) = n := by
  have := ahead_plus (now := now) (t := now) (n := n) (by rw [ahead_self]; omega)
  rwa [ahead_self, Int.zero_add] at this

theorem ahead_laterOf {now a b : Time} (ha : -2 ^ 46 < ahead now a ∧ ahead now a < 2 ^ 46)
    (hb : -2 ^ 46 < ahead now b ∧ ahead now b < 2 ^ 46) : ahead now (laterOf a b) = max (ahead now a) (ahead now b) := by
  have hiff := earlier_iff_ahead ha hb
  unfold laterOf
  by_cases hlt : ahead now a < ahead now b
  · rw [if_pos (hiff.2 hlt)]; omega
  · rw [if_neg (mt hiff.1 hlt)]; omega

/-- The time left to a due time is how far it lies ahead. -/
theorem timeLeft_le {now due : Time} {n : Nat} (hlow : -2 ^ 47 < ahead now due) (h : ahead now due ≤ n) :
    timeLeft now due ≤ n := by
  have hiff := reached_iff_ahead hlow
  unfold timeLeft
  by_cases hreached : reached now due = true
  · rw [if_pos hreached]; exact Nat.zero_le n
  · rw [if_neg hreached]
    have hpos := mt hiff.2 hreached
    rw [ahead_eq] at h hpos
    split at h <;> split at hpos <;> omega

/-! ### The schedule in the order of due times (R80) -/

/-- The entries stand in order of due time, each at most 63 µs behind the present and at most 2^32 µs ahead. -/
def Part.Ranged (p : Part) : Prop :=
  p.schedule.Pairwise (fun a b => ahead p.time a.due ≤ ahead p.time b.due) ∧
  ∀ e ∈ p.schedule, -63 ≤ ahead p.time e.due ∧ ahead p.time e.due ≤ 4294967296

/-- A due time that an entry may have. -/
def Part.InReach (p : Part) (due : Time) : Prop := -63 ≤ ahead p.time due ∧ ahead p.time due ≤ 4294967296

theorem Part.Ranged.sublist {p q : Part} (htime : q.time = p.time) (hsub : q.schedule.Sublist p.schedule) (h : p.Ranged) :
    q.Ranged := by
  unfold Part.Ranged
  rw [htime]
  exact ⟨h.1.sublist hsub, fun e he => h.2 e (hsub.subset he)⟩

theorem Part.Ranged.place {p : Part} {j : JobId} {purpose : Purpose} {due : Time} (hdue : p.InReach due) (h : p.Ranged) :
    (p.place j purpose due).Ranged := by
  obtain ⟨hsorted, hrange⟩ := h
  have hmem : ∀ x ∈ (p.unschedule j).schedule, -63 ≤ ahead p.time x.due ∧ ahead p.time x.due ≤ 4294967296 :=
    fun x hx => hrange x (List.mem_of_mem_filter hx)
  have hwide : ∀ {t : Time}, -63 ≤ ahead p.time t ∧ ahead p.time t ≤ 4294967296 →
      -2 ^ 46 < ahead p.time t ∧ ahead p.time t < 2 ^ 46 := fun h => by omega
  refine ⟨insertEntry_sorted (hwide hdue) (fun x hx => hwide (hmem x hx)) (hsorted.sublist List.filter_sublist), fun e he => ?_⟩
  rcases (mem_insertEntry _ _ _).1 he with rfl | he
  · exact hdue
  · exact hmem e he

/-! ### The entries of one job -/

/-- The schedule entries of a job. -/
def Part.entriesOf (p : Part) (j : JobId) : List DeadlineEntry := p.schedule.filter (fun e => decide (e.job = j))

theorem Part.entryOf_eq (p : Part) (j : JobId) : p.entryOf j = (p.entriesOf j).head? :=
  (List.head?_filter).symm

theorem Part.mem_entriesOf {p : Part} {j : JobId} {e : DeadlineEntry} : e ∈ p.entriesOf j ↔ e ∈ p.schedule ∧ e.job = j := by
  simp [Part.entriesOf]

theorem Part.entriesOf_unschedule_self (p : Part) (j : JobId) : (p.unschedule j).entriesOf j = [] := by
  simp [Part.entriesOf, Part.unschedule]

theorem Part.entriesOf_unschedule_ne (p : Part) {j k : JobId} (h : k ≠ j) : (p.unschedule j).entriesOf k = p.entriesOf k := by
  simp only [Part.entriesOf, Part.unschedule, List.filter_filter]
  refine List.filter_congr fun e _ => ?_
  by_cases he : e.job = k <;> simp [he, h]

theorem filter_insertEntry_ne {e : DeadlineEntry} {k : JobId} (h : e.job ≠ k) (l : List DeadlineEntry) :
    (insertEntry e l).filter (fun x => decide (x.job = k)) = l.filter (fun x => decide (x.job = k)) := by
  obtain ⟨pre, post, hinsert, rfl, -, -⟩ := insertEntry_split e l
  rw [hinsert]
  simp [h]

theorem Part.entriesOf_place_self (p : Part) (j : JobId) (purpose : Purpose) (due : Time) :
    (p.place j purpose due).entriesOf j = [{ due := due, job := j, purpose := purpose }] := by
  obtain ⟨pre, post, hinsert, hl, -, -⟩ :=
    insertEntry_split { due := due, job := j, purpose := purpose } (p.unschedule j).schedule
  have hnone : ∀ x ∈ pre ++ post, ¬ x.job = j := fun x hx => by
    rw [hl] at hx
    exact of_decide_eq_true (List.mem_filter.1 hx).2
  have hpre : pre.filter (fun x => decide (x.job = j)) = [] :=
    List.filter_eq_nil_iff.2 fun x hx => by simpa using hnone x (List.mem_append_left _ hx)
  have hpost : post.filter (fun x => decide (x.job = j)) = [] :=
    List.filter_eq_nil_iff.2 fun x hx => by simpa using hnone x (List.mem_append_right _ hx)
  simp only [Part.entriesOf, Part.place, hinsert, List.filter_append, hpre, List.nil_append]
  simp [hpost]

theorem Part.entriesOf_place_ne (p : Part) {j k : JobId} (h : k ≠ j) (purpose : Purpose) (due : Time) :
    (p.place j purpose due).entriesOf k = p.entriesOf k :=
  (filter_insertEntry_ne (Ne.symm h) _).trans (p.entriesOf_unschedule_ne h)

/-- A job that does not work has no entry (R80). -/
theorem Part.entriesOf_idle {p : Part} {j : JobId} (hlaw : p.ScheduleLaw) (h : p.jobs[j].state.working = false) :
    p.entriesOf j = [] :=
  List.filter_eq_nil_iff.2 fun e he => by
    have hworks := (hlaw.2 e he).1
    rw [decide_eq_true_iff]
    rintro rfl
    rw [h] at hworks
    cases hworks

/-- The entries of a job have the purpose of its work (R80). -/
theorem Part.entriesOf_purpose {p : Part} {j : JobId} {w : Work} {e : DeadlineEntry} (hlaw : p.ScheduleLaw)
    (hw : p.workOf j = some w) (he : e ∈ p.entriesOf j) : w.purpose = some e.purpose := by
  obtain ⟨hmem, rfl⟩ := Part.mem_entriesOf.1 he
  have := (hlaw.2 e hmem).2
  rwa [hw] at this

end Sys2Proof.Machine
end

section
/-! SUPPORT. The law of due times, job by job: what it says of one job rests on that job's record, its entries and the phase
of its cell, so a change within one job leaves it to be shown for that job alone (R80, R81, R110). -/

namespace Sys2Proof.Machine

open Sys2Proof

/-- What the law of due times says of one job. -/
def Part.TimedAt (p : Part) (j : JobId) : Prop :=
  p.jobTimed j = true ∧ ∀ e ∈ p.entriesOf j, e.purpose = .stall → p.stallTimed e = true

/-- The edges that are outstanding have just been accepted, within their filter time. -/
def Part.EdgesTimed (p : Part) : Prop :=
  ∀ d ∈ p.deliveries, ahead p.time d.edge.acceptance = 0 ∧ -63 ≤ ahead p.time d.edge.edgeTime ∧ ahead p.time d.edge.edgeTime ≤ 0

/-- The law of due times, but for what it says of job `j`. -/
structure Part.TimeLawBut (p : Part) (j : JobId) : Prop where
  ranged : p.Ranged
  others : ∀ k : JobId, k ≠ j → p.TimedAt k
  lines : ∀ i : InId, p.lineTimed i = true
  edges : p.EdgesTimed

theorem Part.timeLaw_iff (p : Part) :
    p.TimeLaw ↔ p.Ranged ∧ (∀ j : JobId, p.TimedAt j) ∧ (∀ i : InId, p.lineTimed i = true) ∧ p.EdgesTimed := by
  constructor
  · rintro ⟨hsorted, hentries, hjobs, hlines, hedges⟩
    refine ⟨⟨hsorted, fun e he => ⟨(hentries e he).1, (hentries e he).2.1⟩⟩, fun j => ⟨hjobs j, fun e he => ?_⟩, hlines, hedges⟩
    exact (hentries e (Part.mem_entriesOf.1 he).1).2.2
  · rintro ⟨⟨hsorted, hrange⟩, hjobs, hlines, hedges⟩
    refine ⟨hsorted, fun e he => ⟨(hrange e he).1, (hrange e he).2, ?_⟩, fun j => (hjobs j).1, hlines, hedges⟩
    exact (hjobs e.job).2 e (Part.mem_entriesOf.2 ⟨he, rfl⟩)

section
variable {p q r : Part} {j k : JobId}

theorem Part.timeLawBut_of_timeLaw (h : p.TimeLaw) (j : JobId) : p.TimeLawBut j := by
  obtain ⟨hranged, hjobs, hlines, hedges⟩ := p.timeLaw_iff.1 h
  exact ⟨hranged, fun k _ => hjobs k, hlines, hedges⟩

theorem Part.timedAt_of_timeLaw (h : p.TimeLaw) (j : JobId) : p.TimedAt j := (p.timeLaw_iff.1 h).2.1 j

theorem Part.TimeLawBut.timeLaw (h : p.TimeLawBut j) (hj : p.TimedAt j) : p.TimeLaw :=
  p.timeLaw_iff.2 ⟨h.ranged, fun k => if hk : k = j then hk ▸ hj else h.others k hk, h.lines, h.edges⟩

theorem Part.workTimed_congr (htime : q.time = p.time) (hstate : q.jobs[j].state = p.jobs[j].state)
    (hphase : q.phaseOf j = p.phaseOf j) (hentries : q.entriesOf j = p.entriesOf j) (w : Work) :
    q.workTimed j w = p.workTimed j w := by
  simp only [Part.workTimed, Part.echoTimed, Part.entryOf_eq, htime, hstate, hphase, hentries]

theorem Part.stallTimed_congr {e : DeadlineEntry} (hdefn : q.jobs[e.job].defn = p.jobs[e.job].defn) (htime : q.time = p.time) :
    q.stallTimed e = p.stallTimed e := by
  simp only [Part.stallTimed, Part.workOf, hdefn, htime]

theorem Part.TimedAt.congr (htime : q.time = p.time) (hstate : q.jobs[j].state = p.jobs[j].state)
    (hdefn : q.jobs[j].defn = p.jobs[j].defn) (hstaged : q.jobs[j].staged = p.jobs[j].staged)
    (hphase : q.phaseOf j = p.phaseOf j) (hentries : q.entriesOf j = p.entriesOf j) (h : p.TimedAt j) : q.TimedAt j := by
  obtain ⟨hjob, hstall⟩ := h
  refine ⟨?_, fun e he hpurpose => ?_⟩
  · simpa only [Part.jobTimed, Part.workTimed_congr htime hstate hphase hentries, hdefn, hstaged] using hjob
  · rw [hentries] at he
    obtain ⟨-, rfl⟩ := Part.mem_entriesOf.1 he
    rw [Part.stallTimed_congr hdefn htime]
    exact hstall e he hpurpose

theorem Part.lineTimed_congr (htime : q.time = p.time) (hinputs : q.inputs = p.inputs) (i : InId) : q.lineTimed i = p.lineTimed i := by
  simp only [Part.lineTimed, htime, hinputs]

/-! ### Changes within one job -/

/-- `q` comes from `p` by changes to job `j`, its entries and its cells; edges may have been taken. -/
structure Within (j : JobId) (p q : Part) : Prop where
  time : q.time = p.time
  inputs : q.inputs = p.inputs
  deliveries : q.deliveries ⊆ p.deliveries
  jobs : ∀ k : JobId, k ≠ j → q.jobs[k] = p.jobs[k]
  entries : ∀ k : JobId, k ≠ j → q.entriesOf k = p.entriesOf k
  cells : ∀ (c : CellId) (k : JobId), k ≠ j → p.cells[c].owner = some k → c ∉ p.jobs[j].cells →
    q.cells[c].owner = some k ∧ c ∉ q.jobs[j].cells ∧ q.cells[c].phase = p.cells[c].phase
  ranged : p.Ranged → q.Ranged

theorem Within.trans (h : Within j p q) (h' : Within j q r) : Within j p r where
  time := h'.time.trans h.time
  inputs := h'.inputs.trans h.inputs
  deliveries := fun _ hd => h.deliveries (h'.deliveries hd)
  jobs k hk := (h'.jobs k hk).trans (h.jobs k hk)
  entries k hk := (h'.entries k hk).trans (h.entries k hk)
  cells c k hk howner hc := by
    obtain ⟨howner', hc', hphase⟩ := h.cells c k hk howner hc
    obtain ⟨howner'', hc'', hphase'⟩ := h'.cells c k hk howner' hc'
    exact ⟨howner'', hc'', hphase'.trans hphase⟩
  ranged hp := h'.ranged (h.ranged hp)

/-- Jobs, cells and schedule are as they were. -/
theorem Within.of_eq (htime : q.time = p.time) (hinputs : q.inputs = p.inputs) (hdel : q.deliveries ⊆ p.deliveries)
    (hjobs : q.jobs = p.jobs) (hcells : q.cells = p.cells) (hsched : q.schedule = p.schedule) : Within j p q where
  time := htime
  inputs := hinputs
  deliveries := hdel
  jobs k _ := by rw [hjobs]
  entries k _ := by rw [Part.entriesOf, hsched, Part.entriesOf]
  cells c k _ howner hc := by rw [hcells, hjobs]; exact ⟨howner, hc, rfl⟩
  ranged hp := hp.sublist htime (hsched ▸ List.Sublist.refl _)

theorem Within.refl : Within j p p := .of_eq rfl rfl (fun _ h => h) rfl rfl rfl

theorem Within.phaseOf (h : Within j p q) (hlaw : p.CellLaw) (hk : k ≠ j) : q.phaseOf k = p.phaseOf k := by
  have hjob := h.jobs k hk
  unfold Part.phaseOf
  rw [hjob]
  cases hcells : p.jobs[k].cells with
  | nil => rfl
  | cons c cs =>
    have howner := (hlaw.2.2.2.1 c k).2 (by rw [hcells]; exact List.mem_cons_self)
    refine (h.cells c k hk howner fun hmem => hk ?_).2.2
    rw [(hlaw.2.2.2.1 c j).2 hmem] at howner
    exact (Option.some.inj howner).symm

theorem Within.timeLawBut (h : Within j p q) (hlaw : p.CellLaw) (hp : p.TimeLawBut j) : q.TimeLawBut j where
  ranged := h.ranged hp.ranged
  others k hk := by
    have hjob := h.jobs k hk
    exact (hp.others k hk).congr h.time (by rw [hjob]) (by rw [hjob]) (by rw [hjob]) (h.phaseOf hlaw hk) (h.entries k hk)
  lines i := (Part.lineTimed_congr h.time h.inputs i).trans (hp.lines i)
  edges d hd := by rw [h.time]; exact hp.edges d (h.deliveries hd)

/-- A change within a job keeps the law when the job is timed after it. -/
theorem Within.timeLaw (h : Within j p q) (hlaw : p.CellLaw) (hp : p.TimeLaw) (hj : q.TimedAt j) : q.TimeLaw :=
  (h.timeLawBut hlaw (Part.timeLawBut_of_timeLaw hp j)).timeLaw hj

/-! ### Changes of nothing that is timed -/

/-- Nothing that the law of due times reads is another, but that edges may have been taken. -/
structure Timeless (p q : Part) : Prop where
  time : q.time = p.time
  inputs : q.inputs = p.inputs
  deliveries : q.deliveries ⊆ p.deliveries
  jobs : q.jobs = p.jobs
  cells : q.cells = p.cells
  schedule : q.schedule = p.schedule

theorem Timeless.refl : Timeless p p := ⟨rfl, rfl, fun _ h => h, rfl, rfl, rfl⟩

theorem Timeless.trans (h : Timeless p q) (h' : Timeless q r) : Timeless p r :=
  ⟨h'.time.trans h.time, h'.inputs.trans h.inputs, fun _ hd => h.deliveries (h'.deliveries hd), h'.jobs.trans h.jobs,
    h'.cells.trans h.cells, h'.schedule.trans h.schedule⟩

theorem Timeless.timedAt (h : Timeless p q) (hp : p.TimedAt j) : q.TimedAt j :=
  hp.congr h.time (by rw [h.jobs]) (by rw [h.jobs]) (by rw [h.jobs]) (by simp only [Part.phaseOf, h.jobs, h.cells])
    (by rw [Part.entriesOf, h.schedule, Part.entriesOf])

theorem Part.TimeLaw.timeless (hp : p.TimeLaw) (h : Timeless p q) : q.TimeLaw := by
  obtain ⟨hranged, htimed, hlines, hedges⟩ := p.timeLaw_iff.1 hp
  exact q.timeLaw_iff.2 ⟨hranged.sublist h.time (h.schedule ▸ List.Sublist.refl _), fun j => h.timedAt (htimed j),
    fun i => (Part.lineTimed_congr h.time h.inputs i).trans (hlines i), fun d hd => by rw [h.time]; exact hedges d (h.deliveries hd)⟩

/-! ### The operations -/

theorem Within.setJob {b : Job} (hcells : ∀ c ∈ b.cells, c ∈ p.jobs[j].cells) : Within j p (p.setJob j b) where
  time := rfl
  inputs := rfl
  deliveries := fun _ h => h
  jobs k hk := p.setJob_jobs_ne b hk
  entries _ _ := rfl
  cells c k _ howner hc := by
    refine ⟨howner, fun hmem => hc (hcells c ?_), rfl⟩
    simpa using hmem
  ranged hp := hp

theorem Within.setWork (w : Work) : Within j p (p.setWork j w) := .setJob fun _ h => h
theorem Within.setState (st : JobState) : Within j p (p.setState j st) := .setJob fun _ h => h
theorem Within.setStaged (staged : Option Staged) : Within j p (p.setStaged j staged) := .setJob fun _ h => h
theorem Within.setLost (lost : Nat) : Within j p (p.setLost j lost) := .setJob fun _ h => h

theorem Within.driveIdle : Within j p (p.driveIdle j) := .of_eq (by simp) (by simp) (by simp) (by simp) (by simp) (by simp)
theorem Within.driveActive : Within j p (p.driveActive j) := .of_eq (by simp) (by simp) (by simp) (by simp) (by simp) (by simp)

/-- A cell of the job's own takes another count or phase. -/
theorem Within.setCell {c : CellId} {x : Cell} (hc : c ∈ p.jobs[j].cells) : Within j p (p.setCell c x) where
  time := rfl
  inputs := rfl
  deliveries := fun _ h => h
  jobs _ _ := rfl
  entries _ _ := rfl
  cells c' k _ howner hc' := by
    have hne : c' ≠ c := fun h => hc' (h ▸ hc)
    have hsame : (p.setCell c x).cells[c'] = p.cells[c'] := p.setCell_cells_ne x hne
    rw [hsame]
    exact ⟨howner, hc', rfl⟩
  ranged hp := hp

theorem Within.setPhase (ph : Option CellPhase) : Within j p (p.setPhase j ph) := by
  unfold Part.setPhase
  split
  · exact .refl
  · next c cs hc => exact .setCell (by rw [hc]; exact List.mem_cons_self)

theorem Within.zeroCount : Within j p (p.zeroCount j) := by
  unfold Part.zeroCount
  split
  · exact .refl
  · next c cs hc => exact .setCell (by rw [hc]; exact List.mem_cons_self)

theorem Within.countUp : Within j p (p.countUp j) := by
  unfold Part.countUp
  split
  · exact .refl
  · next low hc => exact .setCell (by rw [hc]; exact List.mem_cons_self)
  · next low high cs hc =>
    have hlow : low ∈ p.jobs[j].cells := by rw [hc]; exact List.mem_cons_self
    have hhigh : high ∈ p.jobs[j].cells := by rw [hc]; exact List.mem_cons_of_mem _ List.mem_cons_self
    split
    · exact Within.trans (q := p.setCell low { p.cells[low] with count := 0#16 }) (.setCell hlow) (.setCell hhigh)
    · exact .setCell hlow

theorem Within.place {purpose : Purpose} {due : Time} (h : p.InReach due) : Within j p (p.place j purpose due) where
  time := rfl
  inputs := rfl
  deliveries := fun _ h => h
  jobs _ _ := rfl
  entries _ hk := p.entriesOf_place_ne hk purpose due
  cells _ _ _ howner hc := ⟨howner, hc, rfl⟩
  ranged hp := hp.place h

theorem Within.unschedule : Within j p (p.unschedule j) where
  time := rfl
  inputs := rfl
  deliveries := fun _ h => h
  jobs _ _ := rfl
  entries _ hk := p.entriesOf_unschedule_ne hk
  cells _ _ _ howner hc := ⟨howner, hc, rfl⟩
  ranged hp := hp.sublist (p := p) rfl List.filter_sublist

/-- The head of the schedule is taken off for its job. -/
theorem Within.popEntry {e : DeadlineEntry} {es : List DeadlineEntry} (h : p.schedule = e :: es) : Within e.job p p.popEntry where
  time := rfl
  inputs := rfl
  deliveries := fun _ h => h
  jobs _ _ := rfl
  entries k hk := by simp [Part.entriesOf, Part.popEntry, h, Ne.symm hk]
  cells _ _ _ howner hc := ⟨howner, hc, rfl⟩
  ranged hp := hp.sublist (p := p) rfl (List.tail_sublist _)

theorem Within.offer (time : Time) (content : ReportContent) : Within j p (p.offer j time content) := by
  obtain ⟨-, heq⟩ | ⟨-, heq⟩ := p.offer_cases j time content
  · rw [heq]
    exact Within.trans (q := p.enqueue (some j) p.jobs[j].run time p.jobs[j].lost content)
      (.of_eq rfl rfl (fun _ h => h) rfl rfl rfl) (.setLost 0)
  · rw [heq]; exact .setLost _

theorem Within.offerTick (number : BitVec 32) (time : Time) : Within j p (p.offerTick j number time) := by
  unfold Part.offerTick
  split
  · exact .of_eq rfl rfl (fun _ h => h) rfl rfl rfl
  · exact .offer time _

end

end Sys2Proof.Machine
end

section
/-! SUPPORT. Entries into RUNNING, HOLD and the grants of a start, under the law of due times. -/

namespace Sys2Proof.Machine

open Sys2Proof

/-! ### What the law says of a job at rest -/

/-- The definition is one that R7 allows, and a staged alteration is one that its kind stages. -/
def Job.InRange (b : Job) : Prop := ∀ d, b.defn = some d → d.allowed = true ∧ b.staged.all d.work.canStage = true

/-- No interval is open, and no echo is pending or under way. -/
def Work.Quiet : Work → Prop
  | .measure _ g => g.interval = none
  | .echo _ g => g.pendingList = [] ∧ g.pulse = none
  | .count _ _ => True
  | .delay _ _ => True
  | .tick _ _ => True
  | .wave _ _ => True

/-- The remaining time that a DELAY or TICK job keeps in HELD. -/
def Work.remaining : Work → Nat
  | .delay _ g => g.remaining
  | .tick _ g => g.remaining
  | .count _ _ => 0
  | .measure _ _ => 0
  | .wave _ _ => 0
  | .echo _ _ => 0

theorem Definition.allowed_iff {d : Definition} : d.allowed = true ↔ d.work.inRange = true ∧ d.work.takesOutput d.output = true := by
  simp [Definition.allowed]

theorem Work.takesOutput_congr {w w' : Work} (h : w'.kind = w.kind) (output : Option OutputUse) :
    w'.takesOutput output = w.takesOutput output := by
  cases w <;> cases w' <;> cases h <;> rfl

theorem Work.canStage_congr {w w' : Work} (h : w'.kind = w.kind) (staged : Staged) : w'.canStage staged = w.canStage staged := by
  cases w <;> cases w' <;> cases h <;> cases staged <;> rfl

section
variable {p q : Part} {j : JobId} {d : Definition}

/-- A job stays in range with another work of its kind in range. -/
theorem Job.InRange.withWork {b b' : Job} {d' : Definition} (h : b.InRange) (hd : b.defn = some d) (hd' : b'.defn = some d')
    (houtput : d'.output = d.output) (hkind : d'.work.kind = d.work.kind) (hrange : d'.work.inRange = true)
    (hstaged : b'.staged = b.staged ∨ b'.staged = none) : b'.InRange := by
  intro x hx
  obtain rfl : d' = x := Option.some.inj (hd'.symm.trans hx)
  obtain ⟨hallowed, hstage⟩ := h d hd
  refine ⟨Definition.allowed_iff.2 ⟨hrange, ?_⟩, ?_⟩
  · rw [Work.takesOutput_congr hkind, houtput]
    exact (Definition.allowed_iff.1 hallowed).2
  · rcases hstaged with hs | hs <;> rw [hs]
    · rwa [show d'.work.canStage = d.work.canStage from funext (Work.canStage_congr hkind)]
    · rfl

theorem Job.InRange.work {b : Job} (h : b.InRange) (hd : b.defn = some d) : d.work.inRange = true :=
  (Definition.allowed_iff.1 (h d hd).1).1

theorem Part.TimedAt.inRange (h : p.TimedAt j) : p.jobs[j].InRange := by
  intro d hd
  have hjob := h.1
  simp only [Part.jobTimed, hd, Bool.and_eq_true] at hjob
  exact hjob.1

theorem Part.TimedAt.workTimed (h : p.TimedAt j) (hd : p.jobs[j].defn = some d) : p.workTimed j d.work = true := by
  have hjob := h.1
  simp only [Part.jobTimed, hd, Bool.and_eq_true] at hjob
  exact hjob.2

theorem Part.timedAt_intro (hd : q.jobs[j].defn = some d) (hr : q.jobs[j].InRange) (hw : q.workTimed j d.work = true)
    (hstall : ∀ e ∈ q.entriesOf j, e.purpose = .stall → q.stallTimed e = true) : q.TimedAt j := by
  obtain ⟨hallowed, hstaged⟩ := hr d hd
  refine ⟨?_, hstall⟩
  simp only [Part.jobTimed, hd, Bool.and_eq_true]
  exact ⟨⟨hallowed, hstaged⟩, hw⟩

/-- A job whose work becomes another of its kind, in range, is timed when that work is. -/
theorem Part.timedAt_withWork {w : Work} (hd : p.jobs[j].defn = some d) (hr : p.jobs[j].InRange)
    (hq : q.jobs[j].defn = some { d with work := w }) (hstaged : q.jobs[j].staged = p.jobs[j].staged ∨ q.jobs[j].staged = none)
    (hkind : w.kind = d.work.kind) (hrange : w.inRange = true) (hw : q.workTimed j w = true)
    (hstall : ∀ e ∈ q.entriesOf j, e.purpose = .stall → q.stallTimed e = true) : q.TimedAt j :=
  Part.timedAt_intro hq (hr.withWork hd hq rfl hkind hrange hstaged) hw hstall

/-- A job without a definition has nothing to time. -/
theorem Part.timedAt_of_free (hd : q.jobs[j].defn = none) (hentries : q.entriesOf j = []) : q.TimedAt j := by
  refine ⟨by simp only [Part.jobTimed, hd], fun e he => ?_⟩
  rw [hentries] at he
  cases he

theorem Part.workTimed_of_quiet {w : Work} (hentries : q.entriesOf j = []) (hquiet : w.Quiet)
    (hremaining : q.jobs[j].state ≠ .held ∨ w.remaining ≤ 4294967296) : q.workTimed j w = true := by
  cases w with
  | count c g => rfl
  | wave w g => rfl
  | measure m g =>
    have hinterval : g.interval = none := hquiet
    simp [Part.workTimed, hinterval]
  | delay k g => simpa [Part.workTimed, Work.remaining] using hremaining
  | tick k g => simpa [Part.workTimed, Work.remaining] using hremaining
  | echo e g =>
    obtain ⟨hlist, hpulse⟩ := (show g.pendingList = [] ∧ g.pulse = none from hquiet)
    simp [Part.workTimed, Part.echoTimed, Part.entryOf_eq, hentries, hlist, hpulse, chained]

/-- A job at rest, without an entry: in ARMED, in HELD and in the states in which it is not live. -/
theorem Part.timedAt_of_quiet (hd : q.jobs[j].defn = some d) (hr : q.jobs[j].InRange) (hentries : q.entriesOf j = [])
    (hquiet : d.work.Quiet) (hremaining : q.jobs[j].state ≠ .held ∨ d.work.remaining ≤ 4294967296) : q.TimedAt j :=
  Part.timedAt_intro hd hr (Part.workTimed_of_quiet hentries hquiet hremaining) (by rw [hentries]; exact fun e he => nomatch he)

/-- In ARMED and in HELD a job is at rest. -/
theorem Part.TimedAt.quiet (h : p.TimedAt j) (hd : p.jobs[j].defn = some d)
    (hstate : p.jobs[j].state = .armed ∨ p.jobs[j].state = .held) : d.work.Quiet := by
  have hw := h.workTimed hd
  cases hwork : d.work with
  | count c g => exact trivial
  | delay k g => exact trivial
  | tick k g => exact trivial
  | wave w g => exact trivial
  | measure m g =>
    rw [hwork] at hw
    rcases hstate with hst | hst <;> simpa [Part.workTimed, show p.jobs[j.val].state = _ from hst, Work.Quiet] using hw
  | echo e g =>
    rw [hwork] at hw
    have hworks : p.jobs[j].state.working = false := by rcases hstate with hst | hst <;> rw [hst] <;> rfl
    simp only [Part.workTimed, Part.echoTimed, hworks, Bool.false_or, Bool.and_eq_true, List.isEmpty_iff, Option.isNone_iff_eq_none]
      at hw
    exact hw.1.1.1.1

theorem Part.TimedAt.remaining (h : p.TimedAt j) (hd : p.jobs[j].defn = some d) (hstate : p.jobs[j].state = .held) :
    d.work.remaining ≤ 4294967296 := by
  have hw := h.workTimed hd
  cases hwork : d.work with
  | delay k g => rw [hwork] at hw; simpa [Part.workTimed, show p.jobs[j.val].state = _ from hstate, Work.remaining] using hw
  | tick k g => rw [hwork] at hw; simpa [Part.workTimed, show p.jobs[j.val].state = _ from hstate, Work.remaining] using hw
  | count c g => exact Nat.zero_le _
  | measure m g => exact Nat.zero_le _
  | wave w g => exact Nat.zero_le _
  | echo e g => exact Nat.zero_le _

/-- A STALL entry of a MEASURE job is timed when it stands one µs past the high limit after a reference not ahead. -/
theorem Part.stallTimed_iff {m : MeasureParams} {g : MeasureProgress} {e : DeadlineEntry}
    (hw : q.workOf e.job = some (.measure m g)) : q.stallTimed e = true ↔
      ∃ ref, g.stallReference = some ref ∧ m.stall = true ∧ e.due = stallDue ref m.highLimit ∧ ahead q.time ref ≤ 0 ∧
        -4294967359 ≤ ahead q.time ref := by
  unfold Part.stallTimed
  rw [hw]
  cases hg : g.stallReference with
  | none => simp [hg]
  | some ref => simp [hg, and_assoc]

/-! ### Entries into RUNNING (R11, R16) -/

theorem Part.entriesOf_congr (h : q.schedule = p.schedule) : q.entriesOf j = p.entriesOf j := by
  rw [Part.entriesOf, h, Part.entriesOf]

/-- The stall deadline of a reference just past is within reach. -/
theorem Part.inReach_stallDue {t : Time} {high : Nat} (ht : -63 ≤ ahead p.time t ∧ ahead p.time t ≤ 0) (hhigh : high ≤ 4294967295) :
    p.InReach (stallDue t high) := by
  unfold Part.InReach stallDue
  rw [ahead_plus (by omega)]
  omega

theorem Part.inReach_plus {t : Time} {n : Nat} (ht : -63 ≤ ahead p.time t ∧ ahead p.time t ≤ 0) (hn : n ≤ 4294967296) :
    p.InReach (plus t n) := by
  unfold Part.InReach
  rw [ahead_plus (by omega)]
  omega

theorem Work.inRange_measure {m : MeasureParams} {g : MeasureProgress} (h : (Work.measure m g).inRange = true) :
    m.highLimit ≤ 4294967295 ∧ ∀ sel window, m.mode = .rate sel window → window ≤ 10000000 ∧ m.stall = false := by
  simp only [Work.inRange, Bool.and_eq_true, decide_eq_true_eq] at h
  obtain ⟨⟨⟨⟨-, hhigh⟩, -⟩, -⟩, hmode⟩ := h
  refine ⟨hhigh, fun sel window hm => ?_⟩
  rw [hm] at hmode
  simp only [Bool.and_eq_true, decide_eq_true_eq, Bool.not_eq_true'] at hmode
  exact ⟨hmode.1.2, hmode.2⟩

theorem Within.beginMeasure {m : MeasureParams} {g : MeasureProgress} {t : Time} (hr : (Work.measure m g).inRange = true)
    (ht : -63 ≤ ahead p.time t ∧ ahead p.time t ≤ 0) : Within j p (p.beginMeasure j m g t) := by
  obtain ⟨hhigh, hrate⟩ := Work.inRange_measure hr
  unfold Part.beginMeasure
  split
  · split
    · exact (Within.setWork _).trans (.place (Part.inReach_stallDue ht hhigh))
    · exact .refl
  · exact .refl
  · exact .refl
  · next sel window hm =>
    have hreach : (p.setWork j (.measure m { g with windowStart := some t })).zeroCount j |>.InReach (plus t window) := by
      have := (hrate sel window hm).1
      exact Part.inReach_plus (by simpa using ht) (by omega)
    exact ((Within.setWork _).trans .zeroCount).trans (.place hreach)

/-- A MEASURE job that begins, its record being set before, is timed. -/
theorem Part.beginMeasure_timedAt {m : MeasureParams} {g : MeasureProgress} {t : Time} (hd : p.jobs[j].defn = some d)
    (hwork : d.work = .measure m g) (hr : p.jobs[j].InRange) (hworks : p.jobs[j].state.working = true)
    (hentries : p.entriesOf j = []) (hinterval : g.interval = none ∨ m.mode ≠ .period)
    (ht : -63 ≤ ahead p.time t ∧ ahead p.time t ≤ 0) : (p.beginMeasure j m g t).TimedAt j := by
  have hrange : (Work.measure m g).inRange = true := hwork ▸ hr.work hd
  have hstate : ∀ st, p.jobs[j].state = st → st ≠ .armed ∧ st ≠ .held := by
    rintro st rfl
    constructor <;> intro h <;> rw [h] at hworks <;> cases hworks
  have htimed : ∀ (q : Part) (g' : MeasureProgress), q.jobs[j].state = p.jobs[j].state →
      q.workTimed j (.measure m g') = true := fun q g' hq => by
    simp only [Part.workTimed, hq, (hstate _ rfl).1, (hstate _ rfl).2, ne_eq, not_false_eq_true, and_self, decide_true, Bool.true_or]
  have hset : ∀ g', (p.setWork j (.measure m g')).jobs[j].defn = some { d with work := .measure m g' } := fun g' =>
    Part.setWork_defn _ hd
  have hset' : ∀ g', (p.setWork j (.measure m g')).jobs[j].InRange := fun g' =>
    hr.withWork hd (hset g') rfl (by rw [hwork]; rfl) hrange (.inl (by simp))
  have hplain : p.TimedAt j :=
    Part.timedAt_intro hd hr (by rw [hwork]; exact htimed p g rfl) (by rw [hentries]; exact fun e he => nomatch he)
  unfold Part.beginMeasure
  split
  · next hm =>
    have hnone : g.interval = none := hinterval.resolve_right (fun h => h hm)
    split
    · next hstall =>
      refine Part.timedAt_intro (d := { d with work := .measure m { g with stallRef := some t } }) (hset _) (hset' _)
        (htimed _ _ (by simp)) fun e he _ => ?_
      rw [Part.entriesOf_place_self, List.mem_singleton] at he
      subst he
      refine (Part.stallTimed_iff (Part.workOf_of_defn (hset _))).2 ⟨t, ?_, hstall, rfl, ht.2, ?_⟩
      · simp [MeasureProgress.stallReference, hnone]
      · have := ht.1; simp only [Part.place_time, Part.setWork_time]; omega
    · exact hplain
  · exact hplain
  · exact hplain
  · refine Part.timedAt_intro (d := { d with work := .measure m { g with windowStart := some t } })
      (by simpa only [Part.place_jobs, Part.zeroCount_jobs] using hset _)
      (by simpa only [Part.place_jobs, Part.zeroCount_jobs] using hset' _) (htimed _ _ (by simp)) fun e he hpurpose => ?_
    rw [Part.entriesOf_place_self, List.mem_singleton] at he
    subst he
    cases hpurpose

end

end Sys2Proof.Machine
end

section
/-! SUPPORT. Starts, HOLD, RESUME and endings, with the links that follow, keep the law of due times. -/

namespace Sys2Proof.Machine

open Sys2Proof

section
variable {p q : Part} {j : JobId} {d : Definition}

/-! ### Entry into RUNNING and RESUME (R11, R16) -/

theorem Within.beginPeriod {w : WaveParams} {g : WaveProgress} {t : Time} : Within j p (p.beginPeriod j w g t) :=
  ((Within.setWork _).trans .driveActive).trans (.setPhase _)

theorem Part.beginPeriod_timedAt {w : WaveParams} {g : WaveProgress} {t : Time} (hd : p.jobs[j].defn = some d)
    (hr : p.jobs[j].InRange) (hkind : d.work.kind = .wave) (hrange : (Work.wave w g).inRange = true)
    (hentries : ∀ e ∈ p.entriesOf j, e.purpose ≠ .stall) : (p.beginPeriod j w g t).TimedAt j := by
  have hjobs : (p.beginPeriod j w g t).jobs =
      (p.setWork j (.wave w { g with phase := some .active, periodStart := some t, turnsLeft := turnsOf w.width })).jobs := by
    simp [Part.beginPeriod]
  refine Part.timedAt_withWork (w := .wave w { g with phase := some .active, periodStart := some t, turnsLeft := turnsOf w.width })
    hd hr (by rw [hjobs]; exact Part.setWork_defn _ hd) (.inl ?_) hkind.symm hrange rfl fun e he hpurpose => ?_
  · rw [hjobs]; simp
  · rw [Part.entriesOf_congr (p := p) (by simp)] at he
    exact absurd hpurpose (hentries e he)

theorem Within.beginKind {t : Time} (hr : p.jobs[j].InRange) (ht : -63 ≤ ahead p.time t ∧ ahead p.time t ≤ 0) :
    Within j p (p.beginKind j t) := by
  have hrange : ∀ w, p.workOf j = some w → w.inRange = true := fun w hw => by
    rw [Part.workOf_eq_map] at hw
    obtain ⟨d, hd, rfl⟩ := Option.map_eq_some_iff.1 hw
    exact hr.work hd
  unfold Part.beginKind
  split
  · exact .refl
  · exact .refl
  · next hw => exact .beginMeasure (hrange _ hw) ht
  · next k _ hw =>
    have hk := hrange _ hw
    simp only [Work.inRange, Bool.and_eq_true, decide_eq_true_eq] at hk
    exact (Within.place (Part.inReach_plus ht (by omega))).trans .driveActive
  · next k _ hw =>
    have hk := hrange _ hw
    simp only [Work.inRange, Bool.and_eq_true, decide_eq_true_eq] at hk
    exact .place (Part.inReach_plus ht (by omega))
  · exact .beginPeriod
  · exact .refl

theorem Part.purpose_of_mem_place {purpose : Purpose} {due : Time} {e : DeadlineEntry}
    (h : e ∈ (p.place j purpose due).entriesOf j) : e.purpose = purpose := by
  rw [Part.entriesOf_place_self, List.mem_singleton] at h
  rw [h]

/-- Outside HELD a job of a kind with neither intervals nor echoes is timed when it has no STALL entry. -/
theorem Part.timedAt_of_plain (hd : q.jobs[j].defn = some d) (hr : q.jobs[j].InRange)
    (hkind : d.work.kind ≠ .measure ∧ d.work.kind ≠ .echo) (hstate : q.jobs[j].state ≠ .held)
    (hentries : ∀ e ∈ q.entriesOf j, e.purpose ≠ .stall) : q.TimedAt j := by
  refine Part.timedAt_intro hd hr ?_ fun e he hstall => absurd hstall (hentries e he)
  cases hw : d.work with
  | delay k g => simpa [Part.workTimed] using .inl hstate
  | tick k g => simpa [Part.workTimed] using .inl hstate
  | count c g => rfl
  | wave w g => rfl
  | measure m g => exact absurd (by rw [hw]; rfl) hkind.1
  | echo e g => exact absurd (by rw [hw]; rfl) hkind.2

theorem Part.beginKind_timedAt {t : Time} (hd : p.jobs[j].defn = some d) (hr : p.jobs[j].InRange)
    (hstate : p.jobs[j].state = .running) (hentries : p.entriesOf j = []) (hquiet : d.work.Quiet)
    (ht : -63 ≤ ahead p.time t ∧ ahead p.time t ≤ 0) : (p.beginKind j t).TimedAt j := by
  have hheld : p.jobs[j].state ≠ .held := by rw [hstate]; exact fun h => nomatch h
  have hplain : p.TimedAt j := Part.timedAt_of_quiet hd hr hentries hquiet (.inl hheld)
  unfold Part.beginKind
  rw [Part.workOf_of_defn hd]
  cases hw : d.work with
  | count c g => exact hplain
  | echo e g => exact hplain
  | measure m g =>
    rw [hw] at hquiet
    exact Part.beginMeasure_timedAt hd hw hr (by rw [hstate]; rfl) hentries (.inl hquiet) ht
  | delay k g =>
    refine Part.timedAt_of_plain (d := d) (by simpa using hd) (by simpa using hr) (by simp [hw, Work.kind]) (by simpa using hheld)
      fun e he => ?_
    rw [Part.entriesOf_congr (p := p.place j .expiry (plus t k.duration)) (by simp)] at he
    exact Part.purpose_of_mem_place he ▸ by decide
  | tick k g =>
    exact Part.timedAt_of_plain (d := d) hd hr (by simp [hw, Work.kind]) hheld
      fun e he => Part.purpose_of_mem_place (p := p) he ▸ by decide
  | wave w g =>
    exact Part.beginPeriod_timedAt hd hr (by rw [hw]; rfl) (hw ▸ hr.work hd) (by rw [hentries]; exact fun e he => nomatch he)

theorem Within.entering {t : Time} : Within j p (p.entering j d t) := .setJob fun _ h => h

theorem Part.entering_inRange {t : Time} (hd : p.jobs[j].defn = some d) (hr : p.jobs[j].InRange) :
    (p.entering j d t).jobs[j].InRange := by
  have hself := Part.entering_job (p := p) (j := j) (d := d) t
  exact hr.withWork (d' := { d with entryTime := t }) hd (by rw [hself]) rfl rfl (hr.work (d := d) hd) (.inl (by rw [hself]))

theorem Within.enterRunning {t : Time} (hd : p.jobs[j].defn = some d) (hr : p.jobs[j].InRange)
    (ht : -63 ≤ ahead p.time t ∧ ahead p.time t ≤ 0) : Within j p (p.enterRunning j t) := by
  rw [Part.enterRunning_entering t hd]
  exact Within.entering.trans (.beginKind (Part.entering_inRange hd hr) ht)

/-- A job at rest that enters RUNNING is timed. -/
theorem Part.enterRunning_timedAt {t : Time} (hd : p.jobs[j].defn = some d) (hr : p.jobs[j].InRange)
    (hentries : p.entriesOf j = []) (hquiet : d.work.Quiet) (ht : -63 ≤ ahead p.time t ∧ ahead p.time t ≤ 0) :
    (p.enterRunning j t).TimedAt j := by
  have hself := Part.entering_job (p := p) (j := j) (d := d) t
  rw [Part.enterRunning_entering t hd]
  exact Part.beginKind_timedAt (d := { d with entryTime := t }) (by rw [hself]) (Part.entering_inRange hd hr) (by rw [hself])
    hentries hquiet ht

theorem WaveParams.applyStaged_inRange {w : WaveParams} {g g' : WaveProgress} {staged : Option Staged}
    (h : (Work.wave w g).inRange = true) (hs : staged.all (Work.wave w g).canStage = true) :
    (Work.wave (w.applyStaged staged) g').inRange = true := by
  cases staged with
  | none => exact h
  | some s =>
    cases s with
    | period n => exact h
    | pair period width =>
      simp only [Work.inRange, Bool.and_eq_true] at h
      simp only [Option.all_some, Work.canStage, Bool.and_eq_true] at hs
      simp only [WaveParams.applyStaged, Work.inRange, Bool.and_eq_true]
      exact ⟨hs, h.2⟩

/-- A job that goes on from HELD keeps the law (R16). -/
theorem Part.resumeJob_keeps (hlaw : p.CellLaw) (hsched : p.ScheduleLaw) (hp : p.TimeLaw) (hstate : p.jobs[j].state = .held)
    (hd : p.jobs[j].defn = some d) : (p.resumeJob j).TimeLaw := by
  have htimed := Part.timedAt_of_timeLaw hp j
  have hr := htimed.inRange
  have hquiet := htimed.quiet hd (.inr hstate)
  have hleft := htimed.remaining hd hstate
  have hentries : p.entriesOf j = [] := Part.entriesOf_idle hsched (by rw [hstate]; rfl)
  have hq : Within j p (p.setState j .running) := .setState _
  have hself : (p.setState j .running).jobs[j] = { p.jobs[j] with state := .running } := by simp
  have hqentries : (p.setState j .running).entriesOf j = [] := hentries
  have hnow : -63 ≤ ahead p.time p.time ∧ ahead p.time p.time ≤ 0 := by rw [ahead_self]; omega
  unfold Part.resumeJob
  generalize p.setState j .running = q at hq hself hqentries
  have hqd : q.jobs[j].defn = some d := by rw [hself]; exact hd
  have hqr : q.jobs[j].InRange := by rw [hself]; exact hr
  have hheld : q.jobs[j].state ≠ .held := by rw [hself]; exact fun h => nomatch h
  rw [← hq.time] at hnow
  have hplain : q.TimeLaw := hq.timeLaw hlaw hp (Part.timedAt_of_quiet hqd hqr hqentries hquiet (.inl hheld))
  have hfrom : ∀ {r : Part}, Within j q r → r.TimedAt j → r.TimeLaw := fun h hj => (hq.trans h).timeLaw hlaw hp hj
  dsimp only
  rw [Part.workOf_of_defn hqd]
  cases hw : d.work with
  | count c g => exact hplain
  | echo e g => exact hplain
  | measure m g =>
    rw [hw] at hquiet
    exact hfrom (.beginMeasure (hw ▸ hqr.work hqd) hnow)
      (Part.beginMeasure_timedAt hqd hw hqr (by rw [hself]; rfl) hqentries (.inl hquiet) hnow)
  | delay k g =>
    rw [hw] at hleft
    refine hfrom ((Within.place (Part.inReach_plus hnow hleft)).trans .driveActive) ?_
    refine Part.timedAt_of_plain (d := d) (by simpa using hqd) (by simpa using hqr) (by simp [hw, Work.kind]) (by simpa using hheld)
      fun e he => ?_
    rw [Part.entriesOf_congr (p := q.place j .expiry (plus q.time g.remaining)) (by simp)] at he
    exact Part.purpose_of_mem_place he ▸ by decide
  | tick k g =>
    rw [hw] at hleft
    exact hfrom (.place (Part.inReach_plus hnow hleft)) (Part.timedAt_of_plain (d := d) hqd hqr (by simp [hw, Work.kind]) hheld
      fun e he => Part.purpose_of_mem_place (p := q) he ▸ by decide)
  | wave w g =>
    have hstaged := (hqr d hqd).2
    rw [hw] at hstaged
    refine hfrom ((Within.setStaged none).trans .beginPeriod) ?_
    refine Part.beginPeriod_timedAt (d := d) (by simpa using hqd) ?_ (by rw [hw]; rfl)
      (WaveParams.applyStaged_inRange (hw ▸ hqr.work hqd) hstaged) ?_
    · exact hqr.withWork hqd (by simpa using hqd) rfl rfl (hqr.work hqd) (.inr (by simp))
    · exact fun e he => by rw [show (q.setStaged j none).entriesOf j = [] from hqentries] at he; cases he

/-! ### HOLD (R15) -/

theorem Within.holdJob (hd : p.jobs[j].defn = some d) : Within j p (p.holdJob j) := by
  rw [Part.holdJob_eq (Part.workOf_of_defn hd)]
  exact ((((Within.setWork _).trans .unschedule).trans .driveIdle).trans (.setPhase _)).trans (.setState _)

theorem Part.timeLeftOf_le (hp : p.Ranged) (j : JobId) : p.timeLeftOf j ≤ 4294967296 := by
  unfold Part.timeLeftOf
  cases he : p.entryOf j with
  | none => exact Nat.zero_le _
  | some e =>
    obtain ⟨hlow, hhigh⟩ := hp.2 e (List.mem_of_find?_eq_some he)
    exact timeLeft_le (by omega) hhigh

theorem Work.held_quiet (w : Work) (left : Nat) : (w.held left).Quiet := by
  cases w with
  | measure m g => rfl
  | echo e g => exact ⟨rfl, rfl⟩
  | count c g => trivial
  | delay k g => trivial
  | tick k g => trivial
  | wave w g => trivial

theorem Work.held_kind (w : Work) (left : Nat) : (w.held left).kind = w.kind := by cases w <;> rfl
theorem Work.held_inRange (w : Work) (left : Nat) : (w.held left).inRange = w.inRange := by cases w <;> rfl
theorem Work.held_remaining (w : Work) (left : Nat) : (w.held left).remaining ≤ left := by
  cases w <;> simp [Work.held, Work.remaining]

theorem Part.holdJob_keeps (hlaw : p.CellLaw) (hp : p.TimeLaw) (hd : p.jobs[j].defn = some d) : (p.holdJob j).TimeLaw := by
  have hself := (Part.holdJob_jobs j hd).trans (if_pos rfl)
  have hr := (Part.timedAt_of_timeLaw hp j).inRange
  refine (Within.holdJob hd).timeLaw hlaw hp (Part.timedAt_of_quiet (d := { d with work := d.work.held (p.timeLeftOf j) })
    (by rw [hself]) ?_ ?_ (d.work.held_quiet _) (.inr ?_))
  · exact hr.withWork (d' := { d with work := d.work.held (p.timeLeftOf j) }) hd (by rw [hself]) rfl (d.work.held_kind _) ((d.work.held_inRange _).trans (hr.work hd))
      (.inl (by rw [hself]))
  · rw [Part.entriesOf_congr (p := p.unschedule j) (Part.holdJob_schedule hd)]
    exact p.entriesOf_unschedule_self j
  · exact (d.work.held_remaining _).trans (Part.timeLeftOf_le (p.timeLaw_iff.1 hp).1 j)

/-! ### The grants of a start (R9, R10) -/

theorem Within.grant {cs : List CellId} (hcs : ∀ c ∈ cs, p.cells[c].owner = none) : Within j p (p.grant j d cs) where
  time := by simp
  inputs := by simp
  deliveries := by simp
  jobs k hk := (p.grant_jobs j k d cs).trans (if_neg hk)
  entries k _ := Part.entriesOf_congr (by simp)
  cells c k _ howner _ := by
    have hfree : c ∉ cs := fun hc => by rw [hcs c hc] at howner; cases howner
    have hself : (p.grant j d cs).jobs[j].cells = cs := by rw [p.grant_jobs j j d cs, if_pos rfl]
    rw [p.grant_cells j d cs c, if_neg hfree, hself]
    exact ⟨howner, hfree, rfl⟩
  ranged hp := hp.sublist (p := p) (by simp) (by simp)

theorem Work.fresh_quiet (w : Work) : w.fresh.Quiet := by
  cases w with
  | measure m g => rfl
  | echo e g => exact ⟨rfl, rfl⟩
  | count c g => trivial
  | delay k g => trivial
  | tick k g => trivial
  | wave w g => trivial

theorem Work.fresh_inRange (w : Work) : w.fresh.inRange = w.inRange := by cases w <;> rfl

theorem Part.grant_inRange {cs : List CellId} (hd : p.jobs[j].defn = some d) (hr : p.jobs[j].InRange) :
    (p.grant j d cs).jobs[j].InRange := by
  have hself := (p.grant_jobs j j d cs).trans (if_pos rfl)
  exact hr.withWork (d' := { d with entryTime := 0#48, work := d.work.fresh }) hd (by rw [hself]) rfl d.work.fresh_kind (d.work.fresh_inRange.trans (hr.work hd)) (.inl (by rw [hself]))

/-- A start that goes to ARMED, and one that goes to RUNNING, keep the law. -/
theorem Part.start_keeps {cs : List CellId} (hlaw : p.CellLaw) (hsched : p.ScheduleLaw) (hp : p.TimeLaw)
    (hidle : p.jobs[j].state.working = false) (hd : p.jobs[j].defn = some d) (hclaim : p.claim j d = .granted cs) :
    ((p.grant j d cs).setState j .armed).TimeLaw ∧ ((p.grant j d cs).enterRunning j p.time).TimeLaw := by
  have hself := (p.grant_jobs j j d cs).trans (if_pos rfl)
  have hr := Part.grant_inRange (cs := cs) hd (Part.timedAt_of_timeLaw hp j).inRange
  have hgrant : Within j p (p.grant j d cs) := .grant (Part.claim_cells hclaim).2.2
  have hentries : (p.grant j d cs).entriesOf j = [] :=
    (Part.entriesOf_congr (by simp)).trans (Part.entriesOf_idle hsched hidle)
  have hgd : (p.grant j d cs).jobs[j].defn = some { d with entryTime := 0#48, work := d.work.fresh } := by rw [hself]
  have hnow : -63 ≤ ahead (p.grant j d cs).time p.time ∧ ahead (p.grant j d cs).time p.time ≤ 0 := by
    rw [Part.grant_time, ahead_self]; omega
  have harmed : ((p.grant j d cs).setState j .armed).jobs[j] = { (p.grant j d cs).jobs[j] with state := .armed } :=
    (Part.setState_jobs _ j j .armed).trans (if_pos rfl)
  refine ⟨(hgrant.trans (.setState _)).timeLaw hlaw hp ?_,
    (hgrant.trans (.enterRunning hgd hr hnow)).timeLaw hlaw hp (Part.enterRunning_timedAt hgd hr hentries d.work.fresh_quiet hnow)⟩
  refine Part.timedAt_of_quiet (d := { d with entryTime := 0#48, work := d.work.fresh }) (by rw [harmed]; exact hgd)
    (by rw [harmed]; exact hr) ((Part.entriesOf_congr (by simp)).trans hentries) d.work.fresh_quiet (.inl ?_)
  rw [harmed]
  exact fun h => nomatch h

/-- An ARMED job that enters RUNNING at a time not ahead keeps the law. -/
theorem Part.armed_keeps {t : Time} (hlaw : p.CellLaw) (hsched : p.ScheduleLaw) (hp : p.TimeLaw)
    (hstate : p.jobs[j].state = .armed) (hd : p.jobs[j].defn = some d) (ht : -63 ≤ ahead p.time t ∧ ahead p.time t ≤ 0) :
    (p.enterRunning j t).TimeLaw := by
  have htimed := Part.timedAt_of_timeLaw hp j
  exact (Within.enterRunning hd htimed.inRange ht).timeLaw hlaw hp (Part.enterRunning_timedAt hd htimed.inRange
    (Part.entriesOf_idle hsched (by rw [hstate]; rfl)) (htimed.quiet hd (.inl hstate)) ht)

/-! ### The ending (R27) -/

theorem Work.ending_quiet (w : Work) (st : JobState) (cause : EndCause) (endTime : Time) (count left sample : Nat) :
    (w.ending st cause endTime count left sample).work.Quiet := by
  cases w with
  | measure m g => rfl
  | echo e g => exact ⟨rfl, rfl⟩
  | count c g => trivial
  | delay k g => trivial
  | tick k g => trivial
  | wave w g => trivial

theorem Work.ending_inRange (w : Work) (st : JobState) (cause : EndCause) (endTime : Time) (count left sample : Nat) :
    (w.ending st cause endTime count left sample).work.inRange = w.inRange := by cases w <;> rfl

theorem Within.endSteps (cause : EndCause) (endTime : Time) (sample : Nat) : Within j p (p.endSteps j cause endTime sample) := by
  cases hd : p.jobs[j].defn with
  | none => rw [Part.endSteps_of_none hd]; exact .refl
  | some d =>
    refine ⟨?_, ?_, ?_, fun k hk => Part.endSteps_jobs_ne cause endTime sample hd hk, fun k hk => ?_,
      fun c k hk howner _ => ?_, fun hp => hp.sublist ?_ ?_⟩
    · simp
    · simp
    · rw [Part.endSteps_deliveries cause endTime sample hd]; exact List.filter_subset_self _
    · exact (Part.entriesOf_congr (p := p.unschedule j) (Part.endSteps_schedule cause endTime sample hd)).trans
        (p.entriesOf_unschedule_ne hk)
    · have hne : p.cells[c].owner ≠ some j := by rw [howner]; exact fun h => hk (Option.some.inj h)
      rw [Part.endSteps_cells cause endTime sample hd c, if_neg hne, Part.endSteps_jobs cause endTime sample hd]
      exact ⟨howner, List.not_mem_nil, rfl⟩
    · simp
    · rw [Part.endSteps_schedule cause endTime sample hd]; exact List.filter_sublist

theorem Part.endSteps_timedAt (cause : EndCause) (endTime : Time) (sample : Nat) (hd : p.jobs[j].defn = some d)
    (hr : p.jobs[j].InRange) : (p.endSteps j cause endTime sample).TimedAt j := by
  have hself := Part.endSteps_jobs cause endTime sample hd
  refine Part.timedAt_of_quiet (d := { d with work := (p.endValues j d.work cause endTime sample).work }) (by rw [hself]) ?_ ?_
    (Work.ending_quiet ..) (.inl (by rw [hself]; exact fun h => nomatch h))
  · exact hr.withWork (d' := { d with work := (p.endValues j d.work cause endTime sample).work }) hd (by rw [hself]) rfl
      (Work.ending_kind ..) ((Work.ending_inRange ..).trans (hr.work hd)) (.inr (by rw [hself]))
  · exact (Part.entriesOf_congr (p := p.unschedule j) (Part.endSteps_schedule cause endTime sample hd)).trans
      (p.entriesOf_unschedule_self j)

end

end Sys2Proof.Machine
end

section
/-! SUPPORT. Endings with their cascade, and the commands that act on jobs, keep the law of due times. -/

namespace Sys2Proof.Machine

open Sys2Proof

section
variable {p q : Part} {j : JobId} {d : Definition}

/-! ### The ending and the links that follow (R27, R125–R128) -/

theorem Part.Orderly.cellLaw (h : p.Orderly) : p.CellLaw := h.2.2.2.2.1
theorem Part.Orderly.scheduleLaw (h : p.Orderly) : p.ScheduleLaw := h.2.2.1
theorem Part.Orderly.recordLaw (h : p.Orderly) : p.RecordLaw := h.2.2.2.2.2
theorem Part.Orderly.moves (h : p.Orderly) (hm : Moves p q) : q.Orderly := hm.keep Move.orderly h

/-- A job that is not FREE has a definition (R1). -/
theorem Part.Orderly.defn (h : p.Orderly) (hstate : p.jobs[j].state ≠ .free) : ∃ d, p.jobs[j].defn = some d :=
  Option.isSome_iff_exists.1 ((h.recordLaw.1 j).2 hstate)

theorem Part.Orderly.defn_of_live (h : p.Orderly) (hlive : p.jobs[j].state.live = true) : ∃ d, p.jobs[j].defn = some d :=
  h.defn (JobState.live_ne hlive).1

theorem Part.now_near (p : Part) : -63 ≤ ahead p.time p.time ∧ ahead p.time p.time ≤ 0 := by rw [ahead_self]; omega

theorem Part.startLink_keeps (ho : p.Orderly) (hp : p.TimeLaw) : (p.startLink j).1.TimeLaw := by
  unfold Part.startLink
  split
  case h_1 hst =>
    obtain ⟨d, hd⟩ := ho.defn (j := j) (by rw [hst]; exact fun h => nomatch h)
    exact Part.armed_keeps ho.cellLaw ho.scheduleLaw hp hst hd p.now_near
  case h_2 d hst hd =>
    split
    case h_4 hclaim => exact (Part.start_keeps ho.cellLaw ho.scheduleLaw hp (by rw [hst]; rfl) hd hclaim).2
    all_goals exact hp
  case h_3 d hst hd =>
    split
    case h_4 hclaim => exact (Part.start_keeps ho.cellLaw ho.scheduleLaw hp (by rw [hst]; rfl) hd hclaim).2
    all_goals exact hp
  all_goals exact hp

theorem Part.recordOutcome_keeps (seq : BitVec 16) (o : LinkOutcome) (ho : p.Orderly) (hp : p.TimeLaw) :
    (p.recordOutcome j seq o).TimeLaw := by
  have hself : (p.recordOutcome j seq o).jobs[j] = p.jobs[j].withOutcome o := Part.setJob_jobs_self ..
  have hwithin : Within j p (p.recordOutcome j seq o) :=
    Within.trans (q := { p with reports := { p.reports with queue := p.reports.queue.map (fun e => e.setOutcome seq o) } })
      (.of_eq rfl rfl (fun _ h => h) rfl rfl rfl) (.setJob fun _ h => h)
  refine hwithin.timeLaw ho.cellLaw hp ((Part.timedAt_of_timeLaw hp j).congr (by simp) ?_ ?_ ?_ ?_
    (Part.entriesOf_congr (by simp)))
  · rw [hself]; rfl
  · rw [hself]; rfl
  · rw [hself]; rfl
  · simp only [Part.phaseOf, hself, Job.withOutcome_cells, Part.recordOutcome_cells]

/-- An ending keeps the law, whatever its job was about: only what it does to others must keep it. -/
theorem Part.endWith_keeps {stop : Part → JobId → Part} (cause : EndCause) (endTime : Time) (sample : Nat)
    (hmoves : ∀ (q : Part) (t : JobId), q.jobs[t].state.live = true → Moves q (stop q t))
    (hstop : ∀ (q : Part) (t : JobId), q.Orderly → q.TimeLaw → q.jobs[t].state.live = true → (stop q t).TimeLaw)
    (ho : p.Orderly) (hp : p.TimeLawBut j) (hr : p.jobs[j].InRange) (hlive : p.jobs[j].state.live = true) :
    (Part.endWith stop p j cause endTime sample).TimeLaw := by
  obtain ⟨d, hd⟩ := ho.defn_of_live hlive
  have hsteps : (p.endSteps j cause endTime sample).TimeLaw :=
    ((Within.endSteps cause endTime sample).timeLawBut ho.cellLaw hp).timeLaw (Part.endSteps_timedAt cause endTime sample hd hr)
  have hosteps : (p.endSteps j cause endTime sample).Orderly := ho.moves (.single (.finish j cause endTime sample hlive))
  obtain ⟨-, heq⟩ | ⟨r, o, heq, hr⟩ := Part.endWith_cases stop p j cause endTime sample
  · rw [heq]; exact hsteps
  · rw [heq]
    rcases hr with rfl | ⟨t, rfl⟩ | ⟨t, ht, rfl⟩
    · exact Part.recordOutcome_keeps _ o hosteps hsteps
    · exact Part.recordOutcome_keeps _ o (hosteps.moves Part.startLink_moves) (Part.startLink_keeps hosteps hsteps)
    · exact Part.recordOutcome_keeps _ o (hosteps.moves (hmoves _ t ht)) (hstop _ t hosteps hsteps ht)

theorem Part.cascade_keeps (n : Nat) : ∀ (p : Part) (j : JobId) (cause : EndCause) (endTime : Time) (sample : Nat),
    p.Orderly → p.TimeLawBut j → p.jobs[j].InRange → p.jobs[j].state.live = true →
    (Part.cascade n p j cause endTime sample).TimeLaw := by
  induction n with
  | zero => exact fun p j cause endTime sample => Part.endWith_keeps cause endTime sample (fun _ _ _ => .refl) fun _ _ _ h _ => h
  | succ n ih =>
    exact fun p j cause endTime sample => Part.endWith_keeps cause endTime sample
      (fun q t ht => Part.cascade_moves n q t .linkedStop q.time 0 ht)
      (fun q t ho hq ht => ih q t .linkedStop q.time 0 ho (Part.timeLawBut_of_timeLaw hq t)
        (Part.timedAt_of_timeLaw hq t).inRange ht)

/-- A live job ends: the law need not hold of that job before. -/
theorem Part.endJob_keeps (cause : EndCause) (endTime : Time) (sample : Nat) (ho : p.Orderly) (hp : p.TimeLawBut j)
    (hr : p.jobs[j].InRange) (hlive : p.jobs[j].state.live = true) : (p.endJob j cause endTime sample).TimeLaw :=
  Part.cascade_keeps 32 p j cause endTime sample ho hp hr hlive

theorem Part.TimeLaw.endJob (hp : p.TimeLaw) (cause : EndCause) (endTime : Time) (sample : Nat) (ho : p.Orderly)
    (hlive : p.jobs[j].state.live = true) : (p.endJob j cause endTime sample).TimeLaw :=
  Part.endJob_keeps cause endTime sample ho (Part.timeLawBut_of_timeLaw hp j) (Part.timedAt_of_timeLaw hp j).inRange hlive

/-- An ending after changes within its job. -/
theorem Part.TimeLawBut.endJob (hp : p.TimeLawBut j) (cause : EndCause) (endTime : Time) (sample : Nat) (ho : p.Orderly)
    (hs : Steady j p q) (hw : Within j p q) (hr : q.jobs[j].InRange) (hlive : p.jobs[j].state.live = true) :
    (q.endJob j cause endTime sample).TimeLaw :=
  Part.endJob_keeps cause endTime sample (ho.moves hs.moves) (hw.timeLawBut ho.cellLaw hp) hr (hs.live hlive)

/-! ### The commands that act on jobs -/

theorem onJob_keeps {payload : List Byte} {ok : Bool} {act : JobId → Verdict} (hp : p.TimeLaw)
    (h : ∀ j, ((act j).part p).TimeLaw) : ((onJob payload ok act).part p).TimeLaw := by
  unfold onJob
  split
  · split
    · exact hp
    · exact h _
  · exact hp

theorem Part.startDefined_keeps (ho : p.Orderly) (hp : p.TimeLaw) (hidle : p.jobs[j].state.working = false)
    (hd : p.jobs[j].defn = some d) : ((p.startDefined j d).part p).TimeLaw := by
  unfold Part.startDefined
  split
  case h_4 cs hclaim =>
    obtain ⟨harmed, hrunning⟩ := Part.start_keeps ho.cellLaw ho.scheduleLaw hp hidle hd hclaim
    show (p.startGranted j d cs).TimeLaw
    unfold Part.startGranted
    split
    · exact hrunning
    · exact harmed
    · exact harmed
  all_goals exact hp

theorem actStart_keeps (payload : List Byte) (ho : p.Orderly) (hp : p.TimeLaw) : ((actStart p payload).part p).TimeLaw := by
  refine onJob_keeps hp fun j => ?_
  split
  case h_1 hst hd => exact Part.startDefined_keeps ho hp (by rw [hst]; rfl) hd
  case h_2 hst hd => exact Part.startDefined_keeps ho hp (by rw [hst]; rfl) hd
  all_goals exact hp

/-- A job that enters STOPPING keeps what is under way; its staged alteration goes (R13). -/
theorem Part.enterStopping_keeps (ho : p.Orderly) (hp : p.TimeLaw) (hstate : p.jobs[j].state = .running) :
    (p.enterStopping j).TimeLaw := by
  obtain ⟨d, hd⟩ := ho.defn (j := j) (by rw [hstate]; exact fun h => nomatch h)
  have hself : (p.enterStopping j).jobs[j] = { p.jobs[j] with state := .stopping, staged := none } := Part.setJob_jobs_self ..
  have htimed := Part.timedAt_of_timeLaw hp j
  have hwork := htimed.workTimed hd
  have hwithin : Within j p (p.enterStopping j) := .setJob fun _ h => h
  refine hwithin.timeLaw ho.cellLaw hp (Part.timedAt_intro (d := d) (by rw [hself]; exact hd) ?_ ?_ ?_)
  · rw [hself]
    exact htimed.inRange.withWork (d := d) hd hd rfl rfl (htimed.inRange.work hd) (.inr rfl)
  · cases hw : d.work with
    | count c g => rfl
    | wave w g => rfl
    | measure m g => simp only [Part.workTimed, hself]; rfl
    | delay k g => simp only [Part.workTimed, hself]; rfl
    | tick k g => simp only [Part.workTimed, hself]; rfl
    | echo e g =>
      have hphase : (p.enterStopping j).phaseOf j = p.phaseOf j := by simp only [Part.phaseOf, hself]; rfl
      have hentry : (p.enterStopping j).entryOf j = p.entryOf j := rfl
      have htime : (p.enterStopping j).time = p.time := rfl
      rw [hw] at hwork
      simp only [Part.workTimed, Part.echoTimed, hself, hphase, hentry, htime, hstate, JobState.working] at hwork ⊢
      exact hwork
  · intro e he hpurpose
    obtain ⟨-, rfl⟩ := Part.mem_entriesOf.1 he
    rw [Part.stallTimed_congr (p := p) (q := p.enterStopping e.job) (by rw [hself]) rfl]
    exact htimed.2 e he hpurpose

theorem Part.takenEnding_keeps (cause : EndCause) (ho : p.Orderly) (hp : p.TimeLaw) (hlive : p.jobs[j].state.live = true) :
    ((p.takenEnding j cause).part q).TimeLaw :=
  hp.endJob cause p.time 0 ho hlive

theorem Part.stopLive_keeps (finish : Bool) (ho : p.Orderly) (hp : p.TimeLaw) (hlive : p.jobs[j].state.live = true) :
    ((p.stopLive j finish).part p).TimeLaw := by
  unfold Part.stopLive
  split
  case h_1 hst _ =>
    split
    · exact Part.enterStopping_keeps ho hp hst
    · exact Part.takenEnding_keeps _ ho hp hlive
  all_goals exact Part.takenEnding_keeps _ ho hp hlive

theorem actStop_keeps (payload : List Byte) (ho : p.Orderly) (hp : p.TimeLaw) : ((actStop p payload).part p).TimeLaw := by
  refine onJob_keeps hp fun j => ?_
  split
  · exact hp
  · next hlive =>
    split
    · exact hp
    · split
      · exact hp
      · exact Part.stopLive_keeps _ ho hp (by simpa using hlive)

theorem actHold_keeps (payload : List Byte) (ho : p.Orderly) (hp : p.TimeLaw) : ((actHold p payload).part p).TimeLaw := by
  refine onJob_keeps hp fun j => ?_
  split
  · next hst =>
    obtain ⟨d, hd⟩ := ho.defn (j := j) (by rw [hst]; exact fun h => nomatch h)
    exact Part.holdJob_keeps ho.cellLaw hp hd
  · exact hp

theorem actResume_keeps (payload : List Byte) (ho : p.Orderly) (hp : p.TimeLaw) : ((actResume p payload).part p).TimeLaw := by
  refine onJob_keeps hp fun j => ?_
  split
  · next hst =>
    obtain ⟨d, hd⟩ := ho.defn (j := j) (by rw [hst]; exact fun h => nomatch h)
    exact Part.resumeJob_keeps ho.cellLaw ho.scheduleLaw hp hst hd
  · exact hp

theorem actDelete_keeps (payload : List Byte) (ho : p.Orderly) (hp : p.TimeLaw) : ((actDelete p payload).part p).TimeLaw := by
  have hfree : ∀ j : JobId, p.jobs[j].state.working = false → (p.setJob j Job.free).TimeLaw := fun j hidle =>
    (Within.setJob (b := Job.free) fun _ h => nomatch h).timeLaw ho.cellLaw hp
      (Part.timedAt_of_free (congrArg Job.defn (p.setJob_jobs_self j Job.free)) (Part.entriesOf_idle (p := p) ho.scheduleLaw hidle))
  refine onJob_keeps hp fun j => ?_
  split
  case h_1 hst => exact hfree j (by rw [hst]; rfl)
  case h_2 hst => exact hfree j (by rw [hst]; rfl)
  all_goals exact hp

end

end Sys2Proof.Machine
end

section
/-! SUPPORT. What DEFINE and ALTER let pass is in range, so both keep the law of due times. -/

namespace Sys2Proof.Machine

open Sys2Proof

/-! ### DEFINE (R7, R170) -/

theorem inputField_inj {a b : Nat} (ha : a < 16) (hb : b < 16) (h : inputField a = inputField b) : a = b := by
  have := congrArg Fin.val h
  simpa [inputField, Fin.ofNat, Nat.mod_eq_of_lt ha, Nat.mod_eq_of_lt hb] using this

section
variable {payload : List Byte} {kind : JobKind}

/-- The parameters that the checks of a block let pass are in range. -/
theorem definedWork_inRange (hlines : ∀ x ∈ blockLineChecks payload kind, x.2 = false)
    (hvalues : ∀ x ∈ blockValueChecks payload kind, x.2 = false) : (definedWork payload kind).inRange = true := by
  cases kind with
  | count =>
    simp only [blockLineChecks, blockValueChecks, List.forall_mem_cons, Bool.and_eq_false_iff, decide_eq_false_iff_not] at hlines hvalues
    obtain ⟨hsource, hgate, -⟩ := hlines
    obtain ⟨-, hwidth, hline, -, hlimit, hstep, -⟩ := hvalues
    simp only [definedWork, Work.fresh, Work.inRange, Bool.and_eq_true, decide_eq_true_eq]
    refine ⟨⟨?_, by omega⟩, ?_⟩
    · unfold largestOfWidthCode at hlimit
      split <;> simp_all [CountWidth.largest]
    · split
      · rfl
      · next g hg =>
        split at hg
        · cases hg
        · cases hg
          rw [decide_eq_true_iff]
          intro heq
          have := inputField_inj (by omega) (by omega) heq
          omega
  | measure =>
    simp only [blockValueChecks, List.forall_mem_cons, Bool.or_eq_false_iff, Bool.and_eq_false_iff, decide_eq_false_iff_not]
      at hvalues
    obtain ⟨hmode, -, hwindow, hlow, ⟨hhigh, hlimits⟩, ⟨hstall, hstall'⟩, hreport, -⟩ := hvalues
    simp only [definedWork, Work.fresh, Work.inRange, Bool.and_eq_true, decide_eq_true_eq, Bool.or_eq_true]
    refine ⟨⟨⟨⟨by omega, by omega⟩, by omega⟩, by omega⟩, ?_⟩
    have hcode : field payload 10 1 = 1 ∨ field payload 10 1 = 2 ∨ field payload 10 1 = 3 ∨ field payload 10 1 = 4 := by omega
    rcases hcode with h | h | h | h
    · simp [measureModeField, h]; omega
    · simp [measureModeField, h]; omega
    · simp [measureModeField, h]; omega
    · simp only [h, if_true, Bool.or_eq_false_iff, decide_eq_false_iff_not] at hwindow
      simp [measureModeField, h]; omega
  | delay =>
    simp only [blockValueChecks, List.forall_mem_cons, Bool.or_eq_false_iff, decide_eq_false_iff_not] at hvalues
    simp only [definedWork, Work.fresh, Work.inRange, Bool.and_eq_true, decide_eq_true_eq]
    omega
  | tick =>
    simp only [blockValueChecks, List.forall_mem_cons, Bool.or_eq_false_iff, decide_eq_false_iff_not] at hvalues
    simp only [definedWork, Work.fresh, Work.inRange, Bool.and_eq_true, decide_eq_true_eq]
    omega
  | wave =>
    simp only [blockValueChecks, List.forall_mem_cons, Bool.or_eq_false_iff, decide_eq_false_iff_not] at hvalues
    simp only [definedWork, Work.fresh, Work.inRange, Bool.and_eq_true, decide_eq_true_eq]
    omega
  | echo =>
    simp only [blockValueChecks, List.forall_mem_cons, Bool.or_eq_false_iff, decide_eq_false_iff_not] at hvalues
    simp only [definedWork, Work.fresh, Work.inRange, Bool.and_eq_true, decide_eq_true_eq]
    omega

theorem definedWork_takesOutput (h : outputRefused kind (common payload 8) = false) :
    (definedWork payload kind).takesOutput (definedOutput payload) = true := by
  unfold definedOutput
  cases kind <;> simp only [outputRefused, decide_eq_false_iff_not, not_not] at h <;>
    simp [definedWork, Work.fresh, Work.takesOutput, h]

/-- A payload whose checks all pass defines what R7 allows. -/
theorem definitionOf_allowed (hkind : JobKind.ofCode (common payload 2) = some kind)
    (hlines : firstFailing (defineLineChecks payload) = none) (hvalues : firstFailing (defineValueChecks payload) = none) :
    (definitionOf payload kind).allowed = true := by
  rw [firstFailing_eq_none] at hlines hvalues
  simp only [defineLineChecks, defineValueChecks, hkind, List.forall_mem_append] at hlines hvalues
  obtain ⟨-, hlines⟩ := hlines
  obtain ⟨-, houtput, hblock⟩ := hvalues
  exact Definition.allowed_iff.2 ⟨definedWork_inRange hlines hblock,
    definedWork_takesOutput (houtput (8, outputRefused kind (common payload 8)) List.mem_cons_self)⟩

end

section
variable {p q : Part} {j : JobId} {d : Definition}

theorem definedWork_fresh (payload : List Byte) (kind : JobKind) : (definedWork payload kind).fresh = definedWork payload kind := by
  cases kind <;> rfl

theorem definedWork_quiet (payload : List Byte) (kind : JobKind) : (definedWork payload kind).Quiet :=
  definedWork_fresh payload kind ▸ Work.fresh_quiet _

theorem actDefine_keeps (payload : List Byte) (ho : p.Orderly) (hp : p.TimeLaw) : ((actDefine p payload).part p).TimeLaw := by
  refine onJob_keeps hp fun j => ?_
  split
  · exact hp
  · next hlines =>
    split
    · next hidle =>
      split
      · exact hp
      · exact hp
      · next kind hvalues hkind =>
        have hworks : p.jobs[j].state.working = false := by
          cases hst : p.jobs[j].state with
          | free => rfl
          | defined => rfl
          | ended => rfl
          | armed => rfl
          | held => rfl
          | running => rw [hst] at hidle; cases hidle
          | stopping => rw [hst] at hidle; cases hidle
        have hself : (p.setJob j (Job.defined (definitionOf payload kind))).jobs[j] = Job.defined (definitionOf payload kind) :=
          p.setJob_jobs_self j _
        refine (Within.setJob (b := Job.defined (definitionOf payload kind)) fun _ h => nomatch h).timeLaw ho.cellLaw hp
          (Part.timedAt_of_quiet (d := definitionOf payload kind) (by rw [hself]; rfl) ?_
            (Part.entriesOf_idle (p := p) ho.scheduleLaw hworks) (definedWork_quiet payload kind)
            (.inl (by rw [hself]; exact fun h => nomatch h)))
        rw [hself]
        intro d hd
        cases hd
        exact ⟨definitionOf_allowed hkind hlines hvalues, rfl⟩
    · exact hp

/-! ### ALTER (R17, R18) -/

/-- A job whose work places no STALL entries has none. -/
theorem Part.entriesOf_noStall {w : Work} (hlaw : p.ScheduleLaw) (hw : p.workOf j = some w) (h : w.purpose ≠ some .stall) :
    ∀ e ∈ p.entriesOf j, e.purpose ≠ .stall := fun _ he hpurpose =>
  h ((Part.entriesOf_purpose hlaw hw he).trans (congrArg some hpurpose))

/-- A part in which only the work of a job is another. -/
theorem Part.setWork_sameElse (p : Part) (j : JobId) (w : Work) :
    (p.setWork j w).jobs[j].state = p.jobs[j].state ∧ (p.setWork j w).jobs[j].staged = p.jobs[j].staged ∧
      (p.setWork j w).phaseOf j = p.phaseOf j := by
  have hself : (p.setWork j w).jobs[j] = { p.jobs[j] with defn := p.jobs[j].defn.map (fun d => { d with work := w }) } :=
    p.setWork_jobs_self j w
  refine ⟨by rw [hself], by rw [hself], ?_⟩
  simp only [Part.phaseOf, hself]
  rfl

/-- A job takes a work of its kind, in range, that the law of due times finds in order where the job stands. -/
theorem Part.setWork_timedAt {w : Work} (hd : p.jobs[j].defn = some d) (hr : p.jobs[j].InRange) (hkind : w.kind = d.work.kind)
    (hrange : w.inRange = true) (hw : p.workTimed j w = true)
    (hstall : ∀ e ∈ p.entriesOf j, e.purpose = .stall → (p.setWork j w).stallTimed e = true) : (p.setWork j w).TimedAt j := by
  obtain ⟨hstate, hstaged, hphase⟩ := p.setWork_sameElse j w
  exact Part.timedAt_withWork hd hr (Part.setWork_defn w hd) (.inl hstaged) hkind hrange
    ((Part.workTimed_congr (p := p) (q := p.setWork j w) rfl hstate hphase rfl w).trans hw) hstall

/-- A job takes another staged alteration, one that its kind stages. -/
theorem Part.setStaged_keeps {staged : Staged} (ho : p.Orderly) (hp : p.TimeLaw) (hd : p.jobs[j].defn = some d)
    (hs : d.work.canStage staged = true) : (p.setStaged j (some staged)).TimeLaw := by
  have htimed := Part.timedAt_of_timeLaw hp j
  have hself : (p.setStaged j (some staged)).jobs[j] = { p.jobs[j] with staged := some staged } := p.setStaged_jobs_self j _
  refine (Within.setStaged _).timeLaw ho.cellLaw hp (Part.timedAt_intro (d := d) (by rw [hself]; exact hd) ?_ ?_ fun e he hpurpose => ?_)
  · rw [hself]
    intro x hx
    obtain rfl : d = x := Option.some.inj (hd.symm.trans hx)
    exact ⟨(htimed.inRange d hd).1, hs⟩
  · rw [Part.workTimed_congr (p := p) (q := p.setStaged j (some staged)) rfl (by rw [hself])
      (by simp only [Part.phaseOf, hself]; rfl) rfl]
    exact htimed.workTimed hd
  · obtain ⟨-, rfl⟩ := Part.mem_entriesOf.1 he
    rw [Part.stallTimed_congr (p := p) (q := p.setStaged e.job (some staged)) (by rw [hself]) rfl]
    exact htimed.2 e he hpurpose

theorem Part.alterCount_keeps {c : CountParams} {g : CountProgress} {limit step : Nat} (ho : p.Orderly) (hp : p.TimeLaw)
    (hd : p.jobs[j].defn = some d) (hw : d.work = .count c g) (hlive : p.jobs[j].state.live = true)
    (hlimit : limit ≤ c.width.largest) (hstep : step ≤ 65535) : ((p.alterCount j c g limit step).part p).TimeLaw := by
  have htimed := Part.timedAt_of_timeLaw hp j
  have hwork : p.workOf j = some (.count c g) := (Part.workOf_of_defn hd).trans (congrArg some hw)
  have hrange : (Work.count { c with limit := limit, step := step } g).inRange = true := by
    have := htimed.inRange.work hd
    rw [hw] at this
    simp only [Work.inRange, Bool.and_eq_true, decide_eq_true_eq] at this ⊢
    exact ⟨⟨hlimit, hstep⟩, this.2⟩
  have hset : (p.setWork j (.count { c with limit := limit, step := step } g)).TimedAt j :=
    Part.setWork_timedAt hd htimed.inRange (by rw [hw]; rfl) hrange rfl fun e he hpurpose =>
      absurd hpurpose (Part.entriesOf_noStall ho.scheduleLaw hwork (fun h => nomatch h) e he)
  unfold Part.alterCount
  dsimp only
  split
  · exact (Part.timeLawBut_of_timeLaw hp j).endJob _ _ _ ho (.setWork (Part.fits_of_workOf hwork rfl rfl)) (.setWork _)
      hset.inRange hlive
  · exact (Within.setWork _).timeLaw ho.cellLaw hp hset

theorem Part.alterTick_keeps {k : TickParams} {g : TickProgress} {period : Nat} (ho : p.Orderly) (hp : p.TimeLaw)
    (hd : p.jobs[j].defn = some d) (hw : d.work = .tick k g) (hperiod : 10 ≤ period ∧ period ≤ 4294967295) :
    (p.alterTick j k g period).TimeLaw := by
  have htimed := Part.timedAt_of_timeLaw hp j
  unfold Part.alterTick
  split
  · next hst =>
    have hrange := htimed.inRange.work hd
    rw [hw] at hrange
    simp only [Work.inRange, Bool.and_eq_true, decide_eq_true_eq] at hrange
    refine (Within.setWork _).timeLaw ho.cellLaw hp (Part.setWork_timedAt hd htimed.inRange (by rw [hw]; rfl) ?_ ?_ fun e he => ?_)
    · simp only [Work.inRange, Bool.and_eq_true, decide_eq_true_eq]; omega
    · simp only [Part.workTimed, hst]; rfl
    · rw [Part.entriesOf_idle ho.scheduleLaw (by rw [hst]; rfl)] at he; cases he
  · exact Part.setStaged_keeps ho hp hd (by rw [hw]; simpa [Work.canStage] using hperiod)

theorem Part.alterWave_keeps {w : WaveParams} {g : WaveProgress} {period width : Nat} (ho : p.Orderly) (hp : p.TimeLaw)
    (hd : p.jobs[j].defn = some d) (hw : d.work = .wave w g)
    (hpair : 10 ≤ period ∧ period ≤ 16777215 ∧ 1 ≤ width ∧ width < period) : (p.alterWave j w g period width).TimeLaw := by
  have htimed := Part.timedAt_of_timeLaw hp j
  unfold Part.alterWave
  split
  · next hst =>
    have hrange := htimed.inRange.work hd
    rw [hw] at hrange
    simp only [Work.inRange, Bool.and_eq_true, decide_eq_true_eq] at hrange
    refine (Within.setWork _).timeLaw ho.cellLaw hp (Part.setWork_timedAt hd htimed.inRange (by rw [hw]; rfl) ?_ rfl fun e he => ?_)
    · simp only [Work.inRange, Bool.and_eq_true, decide_eq_true_eq]; omega
    · rw [Part.entriesOf_idle ho.scheduleLaw (by rw [hst]; rfl)] at he; cases he
  · exact Part.setStaged_keeps ho hp hd (by rw [hw]; simp [Work.canStage]; omega)

theorem Part.alterEcho_keeps {x : EchoParams} {g : EchoProgress} {delay width : Nat} (ho : p.Orderly) (hp : p.TimeLaw)
    (hd : p.jobs[j].defn = some d) (hw : d.work = .echo x g) (hdelay : delay ≤ 16777215) (hwidth : 1 ≤ width ∧ width ≤ 65535) :
    (p.setWork j (.echo { x with delay := delay, width := width } g)).TimeLaw := by
  have htimed := Part.timedAt_of_timeLaw hp j
  have hwork : p.workOf j = some (.echo x g) := (Part.workOf_of_defn hd).trans (congrArg some hw)
  have hrange := htimed.inRange.work hd
  have hechoes := htimed.workTimed hd
  rw [hw] at hrange hechoes
  simp only [Work.inRange, Bool.and_eq_true, decide_eq_true_eq] at hrange
  refine (Within.setWork _).timeLaw ho.cellLaw hp (Part.setWork_timedAt hd htimed.inRange (by rw [hw]; rfl) ?_ hechoes
    fun e he hpurpose => absurd hpurpose (Part.entriesOf_noStall ho.scheduleLaw hwork (by simp [Work.purpose]) e he))
  simp only [Work.inRange, Bool.and_eq_true, decide_eq_true_eq]
  omega

theorem Part.holdsStall_iff : p.holdsStall j = true ↔ ∃ e, (p.entriesOf j).head? = some e ∧ e.purpose = .stall := by
  unfold Part.holdsStall
  rw [Part.entryOf_eq]
  cases (p.entriesOf j).head? with
  | none => simp
  | some e => simp

/-- A MEASURE job takes new limits; a STALL entry follows them (R76). -/
theorem Part.alterMeasure_keeps {m : MeasureParams} {g : MeasureProgress} {low high report : Nat} (ho : p.Orderly)
    (hp : p.TimeLaw) (hd : p.jobs[j].defn = some d) (hw : d.work = .measure m g) (hlive : p.jobs[j].state.live = true)
    (hrange : (Work.measure { m with lowLimit := low, highLimit := high, reportInterval := report } g).inRange = true) :
    ((p.alterMeasure j m g low high report).part p).TimeLaw := by
  have htimed := Part.timedAt_of_timeLaw hp j
  have hwork : p.workOf j = some (.measure m g) := (Part.workOf_of_defn hd).trans (congrArg some hw)
  have hmeasure := htimed.workTimed hd
  rw [hw] at hmeasure
  have hhigh : high ≤ 4294967295 := (Work.inRange_measure hrange).1
  unfold Part.alterMeasure
  rw [Part.recomputeStall_part]
  generalize hm' : { m with lowLimit := low, highLimit := high, reportInterval := report } = m' at hrange
  generalize hg' : { g with sinceReport := if report = 0 then 0 else g.sinceReport } = g'
  have hreference : g'.stallReference = g.stallReference := by rw [← hg']; rfl
  have hquiet : p.workTimed j (.measure m' g') = true := by rw [← hg']; exact hmeasure
  have hstalls : m'.stall = m.stall ∧ m'.highLimit = high := by rw [← hm']; exact ⟨rfl, rfl⟩
  have hsteady : Steady j p (p.setWork j (.measure m' g')) :=
    .setWork (Part.fits_of_workOf hwork (by rw [← hm']; rfl) (by rw [← hm']; rfl))
  have hset : ∀ (q : Part), q.jobs[j] = (p.setWork j (.measure m' g')).jobs[j] → q.workTimed j (.measure m' g') = true →
      (∀ e ∈ q.entriesOf j, e.purpose = .stall → q.stallTimed e = true) → q.TimedAt j := fun q hq hwq hstall =>
    Part.timedAt_withWork hd htimed.inRange (by rw [hq]; exact Part.setWork_defn _ hd)
      (.inl (by rw [hq]; exact (p.setWork_sameElse j _).2.1)) (by rw [hw]; rfl) (show (Work.measure m' g').inRange = true from hrange) hwq
      hstall
  obtain ⟨hstate, -, hphase⟩ := p.setWork_sameElse j (.measure m' g')
  have hqwork : (p.setWork j (.measure m' g')).workTimed j (.measure m' g') = true :=
    (Part.workTimed_congr (p := p) (q := p.setWork j (.measure m' g')) rfl hstate hphase rfl _).trans hquiet
  unfold Part.recomputeStall
  split
  · next hholds =>
    obtain ⟨e, hhead, hpurpose⟩ := Part.holdsStall_iff.1 hholds
    have he : e ∈ p.entriesOf j := List.mem_of_head? hhead
    have hjob := (Part.mem_entriesOf.1 he).2
    obtain ⟨ref, href, hstall, -, hpast, hnear⟩ :=
      (Part.stallTimed_iff (by rw [hjob]; exact hwork)).1 (htimed.2 e he hpurpose)
    rw [href]
    have hahead : ahead p.time (stallDue ref high) = ahead p.time ref + (high + 1 : Nat) := ahead_plus (by omega)
    dsimp only
    split
    · have hr : (p.setWork j (.measure m' g')).jobs[j].InRange :=
        htimed.inRange.withWork (d' := { d with work := .measure m' g' }) hd (Part.setWork_defn _ hd) rfl (by rw [hw]; rfl) hrange
          (.inl (p.setWork_sameElse j _).2.1)
      exact (Part.timeLawBut_of_timeLaw hp j).endJob _ _ _ ho hsteady (.setWork _) hr hlive
    · next hnot =>
      have hlater : ¬ ahead p.time (stallDue ref high) ≤ 0 := fun h =>
        hnot ((reached_iff_ahead (now := p.time) (by omega)).2 h)
      have hreach : (p.setWork j (.measure m' g')).InReach (stallDue ref high) :=
        (show -63 ≤ ahead p.time (stallDue ref high) ∧ ahead p.time (stallDue ref high) ≤ 4294967296 by omega)
      refine ((Within.setWork _).trans (.place hreach)).timeLaw ho.cellLaw hp (hset _ rfl ?_ fun x hx _ => ?_)
      · simp only [Part.workTimed] at hqwork ⊢
        exact hqwork
      · rw [Part.entriesOf_place_self, List.mem_singleton] at hx
        subst hx
        refine (Part.stallTimed_iff (m := m') (g := g') (Part.workOf_of_defn (Part.setWork_defn _ hd))).2
          ⟨ref, hreference.trans href, hstalls.1.trans hstall, by rw [hstalls.2], hpast, hnear⟩
  · next hholds =>
    refine (Within.setWork _).timeLaw ho.cellLaw hp (hset _ rfl hqwork fun e he hpurpose => absurd ?_ hholds)
    change e ∈ p.entriesOf j at he
    obtain ⟨x, hx⟩ : ∃ x, (p.entriesOf j).head? = some x := by
      cases hl : p.entriesOf j with
      | nil => rw [hl] at he; cases he
      | cons x xs => exact ⟨x, rfl⟩
    have h1 := Part.entriesOf_purpose ho.scheduleLaw hwork (List.mem_of_head? hx)
    have h2 := Part.entriesOf_purpose ho.scheduleLaw hwork he
    exact Part.holdsStall_iff.2 ⟨x, hx, (Option.some.inj (h1.symm.trans h2)).trans hpurpose⟩

end

end Sys2Proof.Machine
end

section
/-! SUPPORT. Every command keeps the law of due times. -/

namespace Sys2Proof.Machine

open Sys2Proof

section
variable {p q : Part} {j : JobId} {d : Definition}

/-- An ALTER whose values pass their checks keeps the law (R17, R18). -/
theorem Part.alterChecked_keeps {payload : List Byte} (ho : p.Orderly) (hp : p.TimeLaw) (hd : p.jobs[j].defn = some d)
    (hlive : p.jobs[j].state.live = true) (hvalues : firstFailing (alterValueChecks payload d.work) = none) :
    ((p.alterChecked j d.work payload).part p).TimeLaw := by
  rw [firstFailing_eq_none] at hvalues
  have hrange := (Part.timedAt_of_timeLaw hp j).inRange.work hd
  cases hw : d.work with
  | count c g =>
    simp only [hw, alterValueChecks, List.forall_mem_cons, decide_eq_false_iff_not] at hvalues
    obtain ⟨hlimit, hstep, -⟩ := hvalues
    exact Part.alterCount_keeps ho hp hd hw hlive (by omega) (by omega)
  | measure m g =>
    rw [hw] at hrange
    simp only [hw, alterValueChecks, List.forall_mem_cons, Bool.or_eq_false_iff, Bool.and_eq_false_iff, decide_eq_false_iff_not]
      at hvalues
    obtain ⟨hlow, ⟨⟨hhigh, hlimits⟩, hstall⟩, hreport, -⟩ := hvalues
    refine Part.alterMeasure_keeps ho hp hd hw hlive ?_
    simp only [Work.inRange, Bool.and_eq_true, decide_eq_true_eq, Bool.or_eq_true] at hrange ⊢
    refine ⟨⟨⟨⟨by omega, by omega⟩, by omega⟩, by omega⟩, ?_⟩
    have hmode := hrange.2
    cases hm : m.mode with
    | rate sel window => rw [hm] at hmode; exact hmode
    | period => simpa using hstall
    | high => simpa using hstall
    | low => simpa using hstall
  | delay k g => exact hp
  | tick k g =>
    simp only [hw, alterValueChecks, List.forall_mem_cons, Bool.or_eq_false_iff, decide_eq_false_iff_not] at hvalues
    exact Part.alterTick_keeps ho hp hd hw (by omega)
  | wave w g =>
    simp only [hw, alterValueChecks, List.forall_mem_cons, Bool.or_eq_false_iff, decide_eq_false_iff_not] at hvalues
    exact Part.alterWave_keeps ho hp hd hw (by omega)
  | echo x g =>
    simp only [hw, alterValueChecks, List.forall_mem_cons, Bool.or_eq_false_iff, decide_eq_false_iff_not] at hvalues
    exact Part.alterEcho_keeps ho hp hd hw (by omega) (by omega)

theorem actAlter_keeps (payload : List Byte) (ho : p.Orderly) (hp : p.TimeLaw) : ((actAlter p payload).part p).TimeLaw := by
  refine onJob_keeps hp fun j => ?_
  split
  · exact hp
  · exact hp
  · next w halter hw =>
    split
    · exact hp
    · split
      · exact hp
      · next hvalues =>
        rw [Part.workOf_eq_map] at hw
        obtain ⟨d, hd, rfl⟩ := Option.map_eq_some_iff.1 hw
        exact Part.alterChecked_keeps ho hp hd (JobState.live_of_alterable halter) hvalues

/-! ### Commands that leave the jobs alone -/

/-- A line under another setting, with the change that it has or another in time. -/
theorem Part.setInput_keeps {i : InId} {l : InputLine} (hp : p.TimeLaw) (hl : (p.setInput i l).lineTimed i = true) :
    (p.setInput i l).TimeLaw := by
  obtain ⟨hranged, hjobs, hlines, hedges⟩ := p.timeLaw_iff.1 hp
  refine (Part.timeLaw_iff _).2 ⟨hranged, fun j => (hjobs j).congr rfl rfl rfl rfl rfl rfl, fun k => ?_, hedges⟩
  by_cases hk : k = i
  · exact hk ▸ hl
  · have hsame : (p.setInput i l).inputs[k] = p.inputs[k] := p.setInput_inputs_ne l hk
    have hline := hlines k
    simp only [Part.lineTimed, hsame, Part.setInput_time] at hline ⊢
    exact hline

theorem actLinecfg_keeps (payload : List Byte) (hp : p.TimeLaw) : ((actLinecfg p payload).part p).TimeLaw := by
  unfold actLinecfg
  split
  · split
    · exact hp
    · next i _ =>
      split
      · exact hp
      · next hfilter =>
        refine Part.setInput_keeps hp ?_
        have hline := (p.timeLaw_iff.1 hp).2.2.1 i
        have hself : (p.setInput i { p.inputs[i] with filter := field payload 1 1 }).inputs[i] =
            { p.inputs[i] with filter := field payload 1 1 } := p.setInput_inputs_self i _
        simp only [Part.lineTimed, hself, Part.setInput_time, Bool.and_eq_true, decide_eq_true_eq] at hline ⊢
        exact ⟨by omega, hline.2⟩
  · exact hp

theorem actRead_timeless (payload : List Byte) : Timeless p ((actRead p payload).part p) := by
  unfold actRead onJob
  split
  · split
    · exact .refl
    · dsimp only; split <;> exact .refl
  · exact .refl

theorem actList_timeless (payload : List Byte) : Timeless p ((actList p payload).part p) := by
  unfold actList; split <;> exact .refl

theorem actIdent_timeless (payload : List Byte) : Timeless p ((actIdent p payload).part p) := by
  unfold actIdent; split <;> exact .refl

theorem actTime_timeless (payload : List Byte) : Timeless p ((actTime p payload).part p) := by
  unfold actTime; split <;> exact .refl

theorem actSense_timeless (payload : List Byte) : Timeless p ((actSense p payload).part p) := by
  unfold actSense; split <;> exact .refl

theorem Timeless.setReports (r : Reporter) : Timeless p { p with reports := r } := ⟨rfl, rfl, fun _ h => h, rfl, rfl, rfl⟩

theorem Timeless.setPort (port : Port) : Timeless p { p with port := port } := ⟨rfl, rfl, fun _ h => h, rfl, rfl, rfl⟩

theorem actAck_timeless (payload : List Byte) : Timeless p ((actAck p payload).part p) := by
  unfold actAck
  split
  · split
    · exact .setReports _
    · split <;> exact .refl
  · exact .refl

theorem actReconnect_timeless (payload : List Byte) : Timeless p ((actReconnect p payload).part p) := by
  unfold actReconnect
  split
  · exact .setReports _
  · exact .refl

theorem actLinkcfg_timeless (payload : List Byte) : Timeless p ((actLinkcfg p payload).part p) := by
  unfold actLinkcfg
  split
  · split
    · exact .refl
    · exact .refl
    · exact .setReports _
  · exact .refl

theorem actDrive_timeless (payload : List Byte) : Timeless p ((actDrive p payload).part p) := by
  unfold actDrive
  split
  · split
    · exact .refl
    · exact .refl
    · split
      · exact .refl
      · exact ⟨rfl, rfl, fun _ h => h, rfl, rfl, rfl⟩
  · exact .refl

theorem actLinkstat_timeless (payload : List Byte) : Timeless p ((actLinkstat p payload).part p) := by
  unfold actLinkstat
  split
  · split
    · exact .refl
    · exact .setPort _
    · exact .refl
  · exact .refl

theorem actReset_timeless (payload : List Byte) : Timeless p ((actReset p payload).part p) := by
  unfold actReset
  split
  · exact .setPort _
  · exact .refl

/-! ### The intake (R159, R160) -/

theorem Timeless.arbitrate : Timeless p p.arbitrate := ⟨by simp, by simp, by simp, by simp, by simp, by simp⟩

theorem Part.intake_keeps {isKind : Byte → Bool} {replyKind : Byte → Byte} {act : Part → List Byte → Verdict} (ho : p.Orderly)
    (hp : p.TimeLaw) (h : ∀ (q : Part) (payload : List Byte), q.Orderly → q.TimeLaw → ((act q payload).part q).TimeLaw) :
    (p.intake isKind replyKind act).TimeLaw := by
  unfold Part.intake
  split
  · exact hp
  · next f _ =>
    split
    · have hdrop : Timeless p p.dropFrame := .setPort _
      have hact := h p.dropFrame f.payload (ho.moves (.single (.other rfl rfl rfl rfl rfl rfl))) (hp.timeless hdrop)
      exact (hact.timeless (.setPort _)).timeless .arbitrate
    · exact hp

end

end Sys2Proof.Machine
end

section
/-! SUPPORT. Samples and acceptances, and the edges that COUNT and MEASURE jobs take, keep the law of due times. -/

namespace Sys2Proof.Machine

open Sys2Proof

section
variable {p q : Part} {j : JobId} {d : Definition}

/-! ### Samples and acceptances (R33, R34) -/

theorem Part.lineTimed_iff {i : InId} : p.lineTimed i = true ↔ p.inputs[i].filter ≤ 63 ∧
    ∀ c, p.inputs[i].change = some c → c.filterTime ≤ 63 ∧ 0 ≤ ahead p.time (plus c.firstSeen c.filterTime) ∧
      ahead p.time (plus c.firstSeen c.filterTime) ≤ 63 := by
  unfold Part.lineTimed
  cases p.inputs[i].change <;> simp [and_assoc]

/-- A change whose time has come is accepted at that very time, at most 63 µs after it was first seen. -/
theorem Part.acceptChange_keeps {i : InId} {c : LineChange} (hp : p.TimeLaw)
    (hnow : ahead p.time (plus c.firstSeen c.filterTime) = 0) (hfilter : c.filterTime ≤ 63) : (p.acceptChange i c).TimeLaw := by
  obtain ⟨hranged, hjobs, hlines, hedges⟩ := p.timeLaw_iff.1 hp
  have hline : (p.setInput i { p.inputs[i] with filtered := c.level, change := none }).lineTimed i = true := by
    have hself : (p.setInput i { p.inputs[i] with filtered := c.level, change := none }).inputs[i] =
        { p.inputs[i] with filtered := c.level, change := none } := p.setInput_inputs_self i _
    rw [Part.lineTimed_iff, hself]
    exact ⟨(Part.lineTimed_iff.1 (hlines i)).1, fun _ h => nomatch h⟩
  obtain ⟨hranged', hjobs', hlines', -⟩ := (Part.timeLaw_iff _).1 (Part.setInput_keeps hp hline)
  refine (Part.timeLaw_iff _).2 ⟨hranged', hjobs', hlines', fun x hx => ?_⟩
  rcases List.mem_append.1 hx with hold | hnew
  · exact hedges x hold
  · obtain ⟨k, -, rfl⟩ := List.mem_map.1 hnew
    have hseen : ahead p.time c.firstSeen = -(c.filterTime : Int) := by
      have hback : c.firstSeen = plus c.firstSeen c.filterTime - BitVec.ofNat 48 c.filterTime := by unfold plus; bv_omega
      have htime := eq_of_ahead_eq_zero hnow
      rw [hback, htime, ahead_eq]
      have hsub : (p.time - BitVec.ofNat 48 c.filterTime - p.time) = -BitVec.ofNat 48 c.filterTime := by bv_omega
      rw [hsub, BitVec.toNat_neg, BitVec.toNat_ofNat]
      split <;> omega
    show ahead p.time (plus c.firstSeen c.filterTime) = 0 ∧ -63 ≤ ahead p.time c.firstSeen ∧ ahead p.time c.firstSeen ≤ 0
    omega

theorem Part.acceptDue_keeps (hp : p.TimeLaw) (i : InId) : (p.acceptDue i).TimeLaw := by
  unfold Part.acceptDue
  split
  · exact hp
  · next c hc =>
    split
    · next hdue =>
      obtain ⟨hfilter, hlow, -⟩ := (Part.lineTimed_iff.1 ((p.timeLaw_iff.1 hp).2.2.1 i)).2 c hc
      simp only [acceptanceDue, hc] at hdue
      have hpast := (reached_iff_ahead (by omega)).1 hdue
      exact Part.acceptChange_keeps hp (by omega) hfilter
    · exact hp

theorem Part.compareSample_keeps (hp : p.TimeLaw) (i : InId) (level : Level) : (p.compareSample i level).TimeLaw := by
  have hline := Part.lineTimed_iff.1 ((p.timeLaw_iff.1 hp).2.2.1 i)
  have hset : ∀ change : Option LineChange, (∀ c, change = some c → c.filterTime ≤ 63 ∧
      0 ≤ ahead p.time (plus c.firstSeen c.filterTime) ∧ ahead p.time (plus c.firstSeen c.filterTime) ≤ 63) →
      (p.setInput i { p.inputs[i] with change := change }).TimeLaw := fun change hchange => by
    have hself : (p.setInput i { p.inputs[i] with change := change }).inputs[i] = { p.inputs[i] with change := change } :=
      p.setInput_inputs_self i _
    refine Part.setInput_keeps hp (Part.lineTimed_iff.2 ?_)
    rw [hself]
    exact ⟨hline.1, hchange⟩
  unfold Part.compareSample
  split
  · exact hset none fun _ h => nomatch h
  · split
    · exact hp
    · split
      · exact Part.acceptChange_keeps hp (by simp [startedChange, plus]) (by simp [startedChange])
      · refine hset _ fun c hc => ?_
        cases hc
        have hfilter := hline.1
        simp only [startedChange]
        rw [ahead_now_plus (by omega)]
        omega

theorem Part.sampleLine_keeps (hp : p.TimeLaw) (i : InId) (level : Level) : (p.sampleLine i level).TimeLaw :=
  Part.compareSample_keeps (Part.acceptDue_keeps hp i) i level

/-! ### Reports and counts leave a job timed -/

/-- Of the record of a job an offer changes the lost counter only (R3, R133). -/
theorem Part.offer_job (time : Time) (content : ReportContent) :
    ∃ lost, (p.offer j time content).jobs[j] = { p.jobs[j] with lost := lost } := by
  obtain ⟨-, heq⟩ | ⟨-, heq⟩ := p.offer_cases j time content
  · rw [heq]; exact ⟨_, Part.setLost_jobs_self ..⟩
  · rw [heq]; exact ⟨_, Part.setLost_jobs_self ..⟩

theorem Part.timedAt_offer (h : p.TimedAt j) (time : Time) (content : ReportContent) : (p.offer j time content).TimedAt j := by
  obtain ⟨lost, hself⟩ := Part.offer_job (p := p) (j := j) time content
  refine h.congr (by simp) (by rw [hself]) (by rw [hself]) (by rw [hself]) ?_ (Part.entriesOf_congr (by simp))
  simp only [Part.phaseOf, hself, Part.offer_cells]

theorem Part.phaseOf_setCell_count (c : CellId) (n : BitVec 16) :
    (p.setCell c { p.cells[c] with count := n }).phaseOf j = p.phaseOf j := by
  unfold Part.phaseOf
  rw [Part.setCell_jobs]
  cases p.jobs[j].cells with
  | nil => rfl
  | cons c' cs =>
    have hcell : (p.setCell c { p.cells[c] with count := n }).cells[c'] =
        if c' = c then { p.cells[c] with count := n } else p.cells[c'] := p.setCell_cells c c' _
    dsimp only
    rw [hcell]
    split
    · next h => rw [h]
    · rfl

theorem Part.timedAt_countUp (h : p.TimedAt j) : (p.countUp j).TimedAt j := by
  refine h.congr (by simp) (by simp) (by simp) (by simp) ?_ (Part.entriesOf_congr (by simp))
  unfold Part.countUp
  split
  · rfl
  · exact Part.phaseOf_setCell_count ..
  · split
    · exact (Part.phaseOf_setCell_count ..).trans (Part.phaseOf_setCell_count ..)
    · exact Part.phaseOf_setCell_count ..

/-! ### COUNT (R48–R53) -/

theorem Part.takeCountEdge_keeps {c : CountParams} {g : CountProgress} (acceptedIn : JobState) (e : Edge) (ho : p.Orderly)
    (hp : p.TimeLaw) (hd : p.jobs[j].defn = some d) (hw : d.work = .count c g) (hlive : p.jobs[j].state.live = true) :
    (p.takeCountEdge j c g acceptedIn e).TimeLaw := by
  have htimed := Part.timedAt_of_timeLaw hp j
  have hbut := Part.timeLawBut_of_timeLaw hp j
  have hwork : p.workOf j = some (.count c g) := (Part.workOf_of_defn hd).trans (congrArg some hw)
  have hcounted : (p.countUp j).TimedAt j := Part.timedAt_countUp htimed
  unfold Part.takeCountEdge
  split
  · split
    · unfold Part.countEdge
      split
      · exact hp.endJob _ _ _ ho hlive
      · dsimp only
        split
        · exact hbut.endJob _ _ _ ho .countUp .countUp hcounted.inRange hlive
        · split
          · exact (Within.countUp.trans (.offer _ _)).timeLaw ho.cellLaw hp (Part.timedAt_offer hcounted _ _)
          · exact Within.countUp.timeLaw ho.cellLaw hp hcounted
    · refine (Within.setWork _).timeLaw ho.cellLaw hp (Part.setWork_timedAt hd htimed.inRange (by rw [hw]; rfl)
        (hw ▸ htimed.inRange.work hd :) rfl fun e he hpurpose => ?_)
      exact absurd hpurpose (Part.entriesOf_noStall ho.scheduleLaw hwork (fun h => nomatch h) e he)
  · exact hp

/-! ### MEASURE (R63–R69) -/

/-- A job without stall has no STALL entry. -/
theorem Part.TimedAt.noStall {m : MeasureParams} {g : MeasureProgress} (h : p.TimedAt j) (hw : p.workOf j = some (.measure m g))
    (hstall : m.stall = false) : ∀ e ∈ p.entriesOf j, e.purpose ≠ .stall := by
  intro e he hpurpose
  have hjob := (Part.mem_entriesOf.1 he).2
  obtain ⟨ref, -, hyes, -⟩ := (Part.stallTimed_iff (by rw [hjob]; exact hw)).1 (h.2 e he hpurpose)
  rw [hstall] at hyes
  cases hyes

/-- In RUNNING a MEASURE job may have an interval open. -/
theorem Part.workTimed_measure (hstate : q.jobs[j].state = .running) (m : MeasureParams) (g : MeasureProgress) :
    q.workTimed j (.measure m g) = true := by
  simp only [Part.workTimed, hstate]
  rfl

theorem Within.openInterval {m : MeasureParams} {g : MeasureProgress} {t : Time} (hr : (Work.measure m g).inRange = true)
    (ht : -63 ≤ ahead p.time t ∧ ahead p.time t ≤ 0) : Within j p (p.openInterval j m g t) := by
  unfold Part.openInterval
  dsimp only
  split
  · exact (Within.setWork _).trans (.place (Part.inReach_stallDue ht (Work.inRange_measure hr).1))
  · exact .setWork _

/-- An interval opens; with stall, the deadline stands one µs past the high limit after its edge (R70). -/
theorem Part.openInterval_timedAt {m : MeasureParams} {g : MeasureProgress} {t : Time} (hd : p.jobs[j].defn = some d)
    (hr : p.jobs[j].InRange) (hkind : d.work.kind = .measure) (hrange : (Work.measure m g).inRange = true)
    (hstate : p.jobs[j].state = .running) (hentries : m.stall = false → ∀ e ∈ p.entriesOf j, e.purpose ≠ .stall)
    (ht : -63 ≤ ahead p.time t ∧ ahead p.time t ≤ 0) : (p.openInterval j m g t).TimedAt j := by
  unfold Part.openInterval
  generalize hg' : { g with interval := some { openedAt := t, aged := false },
                            stallRef := if m.stall ∧ m.mode = MeasureMode.period then some t else g.stallRef } = g'
  obtain ⟨hsame, hstaged, -⟩ := p.setWork_sameElse j (.measure m g')
  have hset := Part.setWork_defn (p := p) (.measure m g') hd
  have href : g'.stallReference = some t := by rw [← hg']; rfl
  have htimed : ∀ q : Part, q.jobs = (p.setWork j (.measure m g')).jobs →
      (∀ e ∈ q.entriesOf j, e.purpose = .stall → q.stallTimed e = true) → q.TimedAt j := fun q hq =>
    Part.timedAt_withWork (w := .measure m g') hd hr (by rw [hq]; exact hset) (.inl (by rw [hq]; exact hstaged)) hkind.symm
      (show (Work.measure m g').inRange = true from hrange) (Part.workTimed_measure (by rw [hq]; exact hsame.trans hstate) m g')
  dsimp only
  split
  · next hstall =>
    refine htimed _ rfl fun e he _ => ?_
    rw [Part.entriesOf_place_self, List.mem_singleton] at he
    subst he
    refine (Part.stallTimed_iff (m := m) (g := g') (Part.workOf_of_defn hset)).2 ⟨t, href, hstall, rfl, ht.2, ?_⟩
    simp only [Part.place_time, Part.setWork_time]
    omega
  · next hstall =>
    exact htimed _ rfl fun e he hpurpose => absurd hpurpose (hentries (Bool.eq_false_iff.2 hstall) e he)

theorem Within.acceptSample {m : MeasureParams} {g : MeasureProgress} {sample : Nat} {t : Time} :
    Within j p (p.acceptSample j m g sample t) := by
  unfold Part.acceptSample
  dsimp only
  split
  · exact (Within.setWork _).trans (.offer _ _)
  · exact .setWork _

/-- What an accepted sample leaves of a RUNNING job's record and of its entries. -/
theorem Part.acceptSample_job {m : MeasureParams} {g : MeasureProgress} {sample : Nat} {t : Time} (hd : p.jobs[j].defn = some d)
    (hr : p.jobs[j].InRange) (hkind : d.work.kind = .measure) (hrange : (Work.measure m g).inRange = true) :
    (p.acceptSample j m g sample t).jobs[j].defn = some { d with work := .measure m (g.accept m sample) } ∧
      (p.acceptSample j m g sample t).jobs[j].InRange ∧
      (p.acceptSample j m g sample t).jobs[j].state = p.jobs[j].state ∧
      (p.acceptSample j m g sample t).entriesOf j = p.entriesOf j := by
  have hset := Part.setWork_defn (p := p) (.measure m (g.accept m sample)) hd
  obtain ⟨hsame, hstaged, -⟩ := p.setWork_sameElse j (.measure m (g.accept m sample))
  have hinrange : (p.setWork j (.measure m (g.accept m sample))).jobs[j].InRange :=
    hr.withWork (d' := { d with work := .measure m (g.accept m sample) }) hd hset rfl hkind.symm hrange (.inl hstaged)
  unfold Part.acceptSample
  dsimp only
  split
  · obtain ⟨lost, hself⟩ := Part.offer_job (p := p.setWork j (.measure m (g.accept m sample))) (j := j) t
      (.sample sample (g.accept m sample).accepted)
    rw [hself]
    exact ⟨hset, hinrange, hsame, Part.entriesOf_congr (by simp)⟩
  · exact ⟨hset, hinrange, hsame, rfl⟩

theorem Part.openingEdge_keeps {m : MeasureParams} {g : MeasureProgress} {t : Time} (hp : p.TimeLaw)
    (hopen : (p.openInterval j m g t).TimeLaw) : (p.openingEdge j m g t).TimeLaw := by
  unfold Part.openingEdge
  split
  · exact hopen
  · exact hp

/-- A closing edge takes the STALL entry away, and its sample enters the statistics or ends the job (R64). -/
theorem Part.closingEdge_keeps {m : MeasureParams} {g : MeasureProgress} {t : Time} (ho : p.Orderly) (hp : p.TimeLaw)
    (hd : p.jobs[j].defn = some d) (hw : d.work = .measure m g) (hstate : p.jobs[j].state = .running) :
    (p.closingEdge j m g t).TimeLaw := by
  have hr := (Part.timedAt_of_timeLaw hp j).inRange
  unfold Part.closingEdge
  split
  · exact hp
  · next i _ =>
    split
    · exact (Part.timeLawBut_of_timeLaw hp j).endJob (q := p.unschedule j) _ _ _ ho .unschedule .unschedule hr
        (by rw [hstate]; rfl)
    · obtain ⟨hd', hr', hstate', hentries'⟩ := Part.acceptSample_job (p := p.unschedule j) (g := { g with interval := none })
        (sample := i.sample t) (t := t) hd hr (by rw [hw]; rfl) (hw ▸ hr.work hd)
      refine (Within.unschedule.trans .acceptSample).timeLaw ho.cellLaw hp (Part.timedAt_intro hd' hr'
        (Part.workTimed_measure (hstate'.trans hstate) m _) fun e he => ?_)
      rw [hentries', Part.entriesOf_unschedule_self] at he
      cases he

/-- An edge of the source line of a RUNNING MEASURE job. -/
theorem Part.takeMeasureEdge_keeps {m : MeasureParams} {g : MeasureProgress} {e : Edge} (ho : p.Orderly) (hp : p.TimeLaw)
    (hd : p.jobs[j].defn = some d) (hw : d.work = .measure m g) (hstate : p.jobs[j].state = .running)
    (ht : -63 ≤ ahead p.time e.edgeTime ∧ ahead p.time e.edgeTime ≤ 0) : (p.takeMeasureEdge j m g e).TimeLaw := by
  have htimed := Part.timedAt_of_timeLaw hp j
  have hr := htimed.inRange
  have hbut := Part.timeLawBut_of_timeLaw hp j
  have hlive : p.jobs[j].state.live = true := by rw [hstate]; rfl
  have hwork : p.workOf j = some (.measure m g) := (Part.workOf_of_defn hd).trans (congrArg some hw)
  have hkind : d.work.kind = .measure := by rw [hw]; rfl
  have hrange : (Work.measure m g).inRange = true := hw ▸ hr.work hd
  have hopen : (p.openInterval j m g e.edgeTime).TimeLaw := (Within.openInterval hrange ht).timeLaw ho.cellLaw hp
    (Part.openInterval_timedAt hd hr hkind hrange hstate (htimed.noStall hwork) ht)
  unfold Part.takeMeasureEdge
  split
  · unfold Part.periodEdge
    split
    · exact hopen
    · next i _ =>
      split
      · exact hp.endJob _ _ _ ho hlive
      · obtain ⟨hd', hr', hstate', hentries'⟩ :=
          Part.acceptSample_job (sample := i.sample e.edgeTime) (t := e.edgeTime) hd hr hkind hrange
        have hbefore : Within j p (p.acceptSample j m g (i.sample e.edgeTime) e.edgeTime) := .acceptSample
        have ht' := hbefore.time ▸ ht
        have hrange' : (Work.measure m (g.accept m (i.sample e.edgeTime))).inRange = true := hrange
        exact (hbefore.trans (.openInterval hrange' ht')).timeLaw ho.cellLaw hp (Part.openInterval_timedAt hd' hr' rfl hrange'
          (hstate'.trans hstate) (by rw [hentries']; exact htimed.noStall hwork) ht')
  · exact hp
  · exact Part.openingEdge_keeps hp hopen
  · exact Part.closingEdge_keeps ho hp hd hw hstate
  · exact Part.openingEdge_keeps hp hopen
  · exact Part.closingEdge_keeps ho hp hd hw hstate
  · unfold Part.windowEdge
    split
    · split
      · exact hp.endJob _ _ _ ho hlive
      · exact Within.countUp.timeLaw ho.cellLaw hp (Part.timedAt_countUp htimed)
    · exact hp

end

end Sys2Proof.Machine
end

section
/-! SUPPORT. The pending list of an ECHO job under the law of due times, and the edges that the jobs take (R110, R112). -/

namespace Sys2Proof.Machine

open Sys2Proof

/-! ### The pending list (R110, R112) -/

/-- What the law says of one pending entry, `before` being the end of the pulse before it. -/
structure ClearOf (now : Time) (before : Option Time) (x : PendingPulse) : Prop where
  width : 1 ≤ x.width ∧ x.width ≤ 65535
  notBehind : 0 ≤ ahead now x.due
  clear : ∀ t, before = some t → ahead now t ≤ ahead now x.due
  near : before = some x.due ∨ ahead now x.due ≤ 16777215

/-- The end of the last pulse of a list, `before` being the end of the pulse before its head. -/
def listEnd (before : Option Time) (l : List PendingPulse) : Option Time :=
  l.foldl (fun _ x => some (plus x.due x.width)) before

theorem listEnd_cons (before : Option Time) (x : PendingPulse) (xs : List PendingPulse) :
    listEnd before (x :: xs) = listEnd (some (plus x.due x.width)) xs := rfl

theorem chained_cons {now : Time} {before : Option Time} {x : PendingPulse} {xs : List PendingPulse} :
    chained now before (x :: xs) = true ↔ ClearOf now before x ∧ chained now (some (plus x.due x.width)) xs = true := by
  cases before with
  | none =>
    simp only [chained, Bool.and_eq_true, decide_eq_true_eq]
    constructor
    · rintro ⟨⟨⟨⟨h1, h2⟩, h3⟩, h4⟩, h5⟩
      exact ⟨⟨⟨h1, h2⟩, h3, (fun _ h => nomatch h), .inr h4⟩, h5⟩
    · rintro ⟨⟨⟨h1, h2⟩, h3, -, h4⟩, h5⟩
      exact ⟨⟨⟨⟨h1, h2⟩, h3⟩, h4.resolve_left (fun h => nomatch h)⟩, h5⟩
  | some t =>
    simp only [chained, Bool.and_eq_true, decide_eq_true_eq, Bool.or_eq_true]
    constructor
    · rintro ⟨⟨⟨⟨⟨h1, h2⟩, h3⟩, h4⟩, h5⟩, h6⟩
      exact ⟨⟨⟨h1, h2⟩, h3, fun _ h => Option.some.inj h ▸ h4, h5.imp_left fun h => by rw [h]⟩, h6⟩
    · rintro ⟨⟨⟨h1, h2⟩, h3, h4, h5⟩, h6⟩
      exact ⟨⟨⟨⟨⟨h1, h2⟩, h3⟩, h4 t rfl⟩, h5.imp_left fun h => (Option.some.inj h).symm⟩, h6⟩

theorem chained_nil (now : Time) (before : Option Time) : chained now before [] = true := by
  cases before <;> rfl

theorem chained_append {now : Time} {l : List PendingPulse} {x : PendingPulse} : ∀ {before : Option Time},
    chained now before (l ++ [x]) = true ↔ chained now before l = true ∧ ClearOf now (listEnd before l) x := by
  induction l with
  | nil =>
    intro before
    simp [chained_cons, chained_nil, listEnd]
  | cons y ys ih =>
    intro before
    rw [List.cons_append, chained_cons, chained_cons, ih, listEnd_cons, and_assoc]

/-- A pulse end, or none, that lies not behind the present and at most `n` µs ahead. -/
def EndsWithin (now : Time) (n : Nat) (before : Option Time) : Prop := ∀ t, before = some t → 0 ≤ ahead now t ∧ ahead now t ≤ n

/-- The pulse of an entry ends at most 65,535 µs after the latest of what came before. -/
theorem ClearOf.endsWithin {now : Time} {before : Option Time} {x : PendingPulse} {n : Nat}
    (h : ClearOf now before x) (hn : 16777215 ≤ n ∧ n ≤ 2 ^ 30) (hb : EndsWithin now n before) :
    ahead now x.due ≤ n ∧ EndsWithin now (n + 65535) (some (plus x.due x.width)) := by
  have hdue : ahead now x.due ≤ n := by
    rcases h.near with hb' | hnear
    · exact (hb _ hb').2
    · omega
  refine ⟨hdue, fun t ht => ?_⟩
  obtain rfl := Option.some.inj ht
  have := h.width
  have := h.notBehind
  rw [ahead_plus (by omega)]
  omega

/-- Within a chained list due times and pulse ends stay near. -/
theorem chained_near {now : Time} {l : List PendingPulse} : ∀ {before : Option Time} {n : Nat},
    16777215 ≤ n → n + 65535 * l.length ≤ 2 ^ 30 → EndsWithin now n before → chained now before l = true →
    (∀ x ∈ l, ahead now x.due ≤ (n + 65535 * l.length : Nat)) ∧ EndsWithin now (n + 65535 * l.length) (listEnd before l) := by
  induction l with
  | nil => exact fun _ _ hb _ => ⟨fun x hx => absurd hx List.not_mem_nil, hb⟩
  | cons x xs ih =>
    intro before n hn hlen hb hc
    obtain ⟨hx, hxs⟩ := chained_cons.1 hc
    rw [List.length_cons] at hlen ⊢
    obtain ⟨hdue, hend⟩ := hx.endsWithin (by omega) hb
    have hn' : 16777215 ≤ n + 65535 := Nat.le_add_right_of_le hn
    have hlen' : n + 65535 + 65535 * xs.length ≤ 2 ^ 30 := by omega
    obtain ⟨hrest, hlast⟩ := ih hn' hlen' hend hxs
    have heq : n + 65535 + 65535 * xs.length = n + 65535 * (xs.length + 1) := by omega
    rw [heq] at hrest hlast
    refine ⟨fun y hy => ?_, hlast⟩
    rcases List.mem_cons.1 hy with rfl | hy
    · omega
    · exact hrest y hy

section
variable {p q : Part} {j : JobId} {d : Definition}

/-- What the law of due times says of an ECHO job. -/
structure Part.EchoTimed (p : Part) (j : JobId) (g : EchoProgress) : Prop where
  rests : p.jobs[j].state.working = true ∨ g.pendingList = [] ∧ g.pulse = none
  few : g.pendingList.length ≤ 8
  chain : chained p.time (g.pulse.map (fun u => u.endTime)) g.pendingList = true
  head : (p.entriesOf j).head?.map (fun e => e.due) = g.pendingList.head?.map (fun x => x.due)
  pulse : ∀ u, g.pulse = some u → 0 ≤ ahead p.time u.endTime ∧ ahead p.time u.endTime ≤ 65535 ∧
    (p.phaseOf j).map (fun ph => ph.endTime) = some u.endTime

theorem Part.echoTimed_iff {g : EchoProgress} : p.echoTimed j g = true ↔ p.EchoTimed j g := by
  unfold Part.echoTimed
  rw [Part.entryOf_eq]
  constructor
  · intro h
    simp only [Bool.and_eq_true, Bool.or_eq_true, decide_eq_true_eq, List.isEmpty_iff, Option.isNone_iff_eq_none] at h
    obtain ⟨⟨⟨⟨hrests, hfew⟩, hchain⟩, hhead⟩, hpulse⟩ := h
    refine ⟨hrests, hfew, hchain, hhead, fun u hu => ?_⟩
    rw [hu] at hpulse
    simpa [and_assoc] using hpulse
  · rintro ⟨hrests, hfew, hchain, hhead, hpulse⟩
    simp only [Bool.and_eq_true, Bool.or_eq_true, decide_eq_true_eq, List.isEmpty_iff, Option.isNone_iff_eq_none]
    refine ⟨⟨⟨⟨hrests, hfew⟩, hchain⟩, hhead⟩, ?_⟩
    split
    · rfl
    · next u hu => simpa [and_assoc] using hpulse u hu

theorem Part.TimedAt.echoes {x : EchoParams} {g : EchoProgress} (h : p.TimedAt j) (hw : p.workOf j = some (.echo x g)) :
    p.EchoTimed j g := by
  obtain ⟨d, hd, hwork⟩ := Part.workOf_iff.1 hw
  have hwt := h.workTimed hd
  rw [hwork] at hwt
  exact Part.echoTimed_iff.1 hwt

theorem Part.EchoTimed.endsWithin {g : EchoProgress} (h : p.EchoTimed j g) :
    EndsWithin p.time 16777215 (g.pulse.map (fun u => u.endTime)) := fun t ht => by
  obtain ⟨u, hu, rfl⟩ := Option.map_eq_some_iff.1 ht
  have := h.pulse u hu
  omega

/-- All due times of the list, and the end of its last pulse, are near. -/
theorem Part.EchoTimed.near {g : EchoProgress} (h : p.EchoTimed j g) :
    (∀ x ∈ g.pendingList, ahead p.time x.due ≤ 2 ^ 30) ∧
      EndsWithin p.time (2 ^ 30) (listEnd (g.pulse.map (fun u => u.endTime)) g.pendingList) := by
  have hfew := h.few
  obtain ⟨hdue, hend⟩ := chained_near (n := 16777215) (by omega) (by omega) h.endsWithin h.chain
  refine ⟨fun x hx => ?_, fun t ht => ?_⟩
  · have := hdue x hx; omega
  · have := hend t ht; omega

theorem EchoProgress.previousEnd_eq (g : EchoProgress) :
    g.previousEnd = listEnd (g.pulse.map (fun u => u.endTime)) g.pendingList := by
  rcases List.eq_nil_or_concat g.pendingList with h | ⟨init, x, h⟩
  · rw [EchoProgress.previousEnd_nil h, h]; rfl
  · rw [EchoProgress.previousEnd, h, listEnd]; simp

/-- An ECHO job takes a work of its kind, in range. -/
theorem Part.timedAt_withEcho {x : EchoParams} {g : EchoProgress} (hd : p.jobs[j].defn = some d) (hr : p.jobs[j].InRange)
    (hq : q.jobs[j].defn = some { d with work := .echo x g }) (hstaged : q.jobs[j].staged = p.jobs[j].staged)
    (hkind : d.work.kind = .echo) (hrange : (Work.echo x g).inRange = true) (hw : q.EchoTimed j g)
    (hentries : ∀ e ∈ q.entriesOf j, e.purpose ≠ .stall) : q.TimedAt j :=
  Part.timedAt_withWork (w := .echo x g) hd hr hq (.inl hstaged) hkind.symm hrange (Part.echoTimed_iff.2 hw)
    fun e he hpurpose => absurd hpurpose (hentries e he)

/-! ### The edges of an ECHO job (R112, R113) -/

/-- A due time by the first two terms of R112 is near. -/
theorem EchoParams.ownDue_near {x : EchoParams} {e : Edge} {now : Time} (hdelay : x.delay ≤ 16777215)
    (hacc : ahead now e.acceptance = 0) (hedge : -63 ≤ ahead now e.edgeTime ∧ ahead now e.edgeTime ≤ 0) :
    0 ≤ ahead now (x.ownDue e) ∧ ahead now (x.ownDue e) ≤ 16777215 := by
  have hplus : ahead now (plus e.edgeTime x.delay) = ahead now e.edgeTime + x.delay := ahead_plus (by omega)
  rw [EchoParams.ownDue, ahead_laterOf (by omega) (by omega)]
  omega

/-- The entry of a taken edge follows the last pulse of the list. -/
theorem echoDueTime_clear {x : EchoParams} {g : EchoProgress} {e : Edge} {now : Time} (hdelay : x.delay ≤ 16777215)
    (hwidth : 1 ≤ x.width ∧ x.width ≤ 65535) (hacc : ahead now e.acceptance = 0)
    (hedge : -63 ≤ ahead now e.edgeTime ∧ ahead now e.edgeTime ≤ 0) (hend : EndsWithin now (2 ^ 30) g.previousEnd) :
    ClearOf now g.previousEnd { due := echoDueTime x g e, width := x.width } := by
  obtain ⟨hlow, hhigh⟩ := EchoParams.ownDue_near hdelay hacc hedge
  unfold echoDueTime
  cases hprev : g.previousEnd with
  | none => exact ⟨hwidth, hlow, (fun _ h => nomatch h), .inr hhigh⟩
  | some t =>
    have hnear := hend t hprev
    have hmax := ahead_laterOf (now := now) (a := x.ownDue e) (b := t) (by omega) (by omega)
    refine ⟨hwidth, ?_, fun s hs => ?_, ?_⟩
    · show 0 ≤ ahead now (laterOf (x.ownDue e) t)
      omega
    · obtain rfl := Option.some.inj hs
      show ahead now t ≤ ahead now (laterOf (x.ownDue e) t)
      omega
    · show some t = some (laterOf (x.ownDue e) t) ∨ ahead now (laterOf (x.ownDue e) t) ≤ 16777215
      unfold laterOf
      split
      · exact .inl rfl
      · exact .inr hhigh

theorem Part.inReach_of_near {t : Time} (h : 0 ≤ ahead p.time t ∧ ahead p.time t ≤ 2 ^ 30) : p.InReach t := by
  unfold Part.InReach; omega

/-- What an edge that is taken needs: its job works, and its entry will stand clear of the pulse before it. -/
structure Part.Joins (p : Part) (j : JobId) (x : EchoParams) (g : EchoProgress) (e : Edge) : Prop where
  works : p.jobs[j].state.working = true
  timed : p.EchoTimed j g
  few : g.pendingList.length < 8
  clear : ClearOf p.time g.previousEnd { due := echoDueTime x g e, width := x.width }
  near : ahead p.time (echoDueTime x g e) ≤ 2 ^ 30

theorem Within.joinEcho {x : EchoParams} {g : EchoProgress} {e : Edge} (h : p.Joins j x g e) : Within j p (p.joinEcho j x g e) := by
  unfold Part.joinEcho
  dsimp only
  split
  · exact (Within.setWork _).trans (.place (Part.inReach_of_near (p := p.setWork j _) ⟨h.clear.notBehind, h.near⟩))
  · exact .setWork _

/-- The part after a taken edge has joined the list is timed. -/
theorem Part.joinEcho_timedAt {x : EchoParams} {g : EchoProgress} {e : Edge} (hd : p.jobs[j].defn = some d)
    (hr : p.jobs[j].InRange) (hkind : d.work.kind = .echo) (hrange : (Work.echo x g).inRange = true)
    (hentries : ∀ e ∈ p.entriesOf j, e.purpose ≠ .stall) (h : p.Joins j x g e) : (p.joinEcho j x g e).TimedAt j := by
  unfold Part.joinEcho
  generalize hg' : { g with pendingList := g.pendingList ++ [({ due := echoDueTime x g e, width := x.width } : PendingPulse)],
                            slipped := if echoSlips x g e then satAdd32 g.slipped 1 else g.slipped } = g'
  obtain ⟨hsame, hstaged, hphase⟩ := p.setWork_sameElse j (.echo x g')
  have hset := Part.setWork_defn (p := p) (.echo x g') hd
  have hlist : g'.pendingList = g.pendingList ++ [{ due := echoDueTime x g e, width := x.width }] := by rw [← hg']
  have hpulse : g'.pulse = g.pulse := by rw [← hg']
  have hechoes : ∀ q : Part, q.time = p.time → q.jobs = (p.setWork j (.echo x g')).jobs → q.cells = p.cells →
      (q.entriesOf j).head?.map (fun e => e.due) = g'.pendingList.head?.map (fun x => x.due) → q.EchoTimed j g' :=
    fun q htime hjobs hcells hhead => by
      have hphase' : q.phaseOf j = p.phaseOf j := by rw [← hphase]; simp only [Part.phaseOf, hjobs, hcells]; rfl
      refine ⟨.inl (by rw [hjobs]; exact (congrArg JobState.working hsame).trans h.works), ?_, ?_, hhead, ?_⟩
      · have := h.few
        rw [hlist, List.length_append, List.length_singleton]
        omega
      · rw [hlist, hpulse, htime]
        exact chained_append.2 ⟨h.timed.chain, g.previousEnd_eq ▸ h.clear⟩
      · rw [hpulse, htime, hphase']
        exact h.timed.pulse
  dsimp only
  split
  · next hempty =>
    rw [List.isEmpty_iff] at hempty
    refine Part.timedAt_withEcho hd hr hset hstaged hkind hrange (hechoes _ rfl rfl rfl ?_)
      fun e he => Part.purpose_of_mem_place (p := p.setWork j (.echo x g')) he ▸ by decide
    rw [Part.entriesOf_place_self, hlist, hempty]
    rfl
  · next hempty =>
    refine Part.timedAt_withEcho hd hr hset hstaged hkind hrange (hechoes _ rfl rfl rfl ?_) hentries
    have hhead := h.timed.head
    cases hl : g.pendingList with
    | nil => rw [hl] at hempty; exact absurd rfl hempty
    | cons y ys => rw [hl] at hhead; rw [hlist, hl]; exact hhead

theorem Part.EchoTimed.congr {g g' : EchoProgress} (hlist : g'.pendingList = g.pendingList) (hpulse : g'.pulse = g.pulse)
    (htime : q.time = p.time) (hstate : q.jobs[j].state = p.jobs[j].state) (hphase : q.phaseOf j = p.phaseOf j)
    (hentries : q.entriesOf j = p.entriesOf j) (h : p.EchoTimed j g) : q.EchoTimed j g' := by
  obtain ⟨hrests, hfew, hchain, hhead, hpulses⟩ := h
  refine ⟨?_, ?_, ?_, ?_, ?_⟩
  · rwa [hstate, hlist, hpulse]
  · rwa [hlist]
  · rwa [hlist, hpulse, htime]
  · rwa [hentries, hlist]
  · rwa [hpulse, htime, hphase]

/-- An edge that an ECHO job turns away, or takes (R113). -/
theorem Part.takeEchoEdge_keeps {x : EchoParams} {g : EchoProgress} {e : Edge} (ho : p.Orderly) (hp : p.TimeLaw)
    (hd : p.jobs[j].defn = some d) (hw : d.work = .echo x g) (hstate : p.jobs[j].state = .running)
    (hacc : ahead p.time e.acceptance = 0) (hedge : -63 ≤ ahead p.time e.edgeTime ∧ ahead p.time e.edgeTime ≤ 0) :
    (p.takeEchoEdge j x g e).TimeLaw := by
  have htimed := Part.timedAt_of_timeLaw hp j
  have hr := htimed.inRange
  have hrange : (Work.echo x g).inRange = true := hw ▸ hr.work hd
  have hkind : d.work.kind = .echo := by rw [hw]; rfl
  have hwork : p.workOf j = some (.echo x g) := (Part.workOf_of_defn hd).trans (congrArg some hw)
  have hnostall := Part.entriesOf_noStall ho.scheduleLaw hwork (by simp [Work.purpose])
  have hechoes := htimed.echoes hwork
  have hparams := hrange
  simp only [Work.inRange, Bool.and_eq_true, decide_eq_true_eq] at hparams
  have hjoins : ∀ (q : Part) (g' : EchoProgress), q.time = p.time → q.jobs = p.jobs → q.EchoTimed j g' →
      g'.pendingList.length < 8 → q.Joins j x g' e := fun q g' htime hjobs hq hfew => by
    have hend : EndsWithin p.time (2 ^ 30) g'.previousEnd := by rw [g'.previousEnd_eq, ← htime]; exact hq.near.2
    have hclear := echoDueTime_clear (now := p.time) (x := x) (g := g') (e := e) (by omega) (by omega) hacc hedge hend
    refine ⟨by rw [hjobs, hstate]; rfl, hq, hfew, by rw [htime]; exact hclear, ?_⟩
    rw [htime]
    rcases hclear.near with h | h
    · exact (hend _ h).2
    · exact Int.le_trans h (by decide)
  have hjoin : g.pendingList.length < 8 → (p.joinEcho j x g e).TimeLaw := fun hfew =>
    (Within.joinEcho (hjoins p g rfl rfl hechoes hfew)).timeLaw ho.cellLaw hp
      (Part.joinEcho_timedAt hd hr hkind hrange hnostall (hjoins p g rfl rfl hechoes hfew))
  have hmiss : (p.missEcho j x g).TimeLaw := (Within.setWork _).timeLaw ho.cellLaw hp
    (Part.setWork_timedAt hd hr hkind.symm hrange
      (Part.echoTimed_iff.2 (hechoes.congr (p := p) (q := p) (g := g) (g' := { g with missed := satAdd32 g.missed 1 }) rfl rfl rfl rfl rfl rfl))
      fun e he hpurpose => absurd hpurpose (hnostall e he))
  unfold Part.takeEchoEdge
  split
  · unfold Part.overlapEcho
    split
    · split
      · next hfew => exact hjoin hfew
      · exact hmiss
    · split
      · next hempty => exact hjoin (by rw [List.isEmpty_iff.1 hempty]; decide)
      · have hreplaced : (p.unschedule j).EchoTimed j { g with pendingList := [], missed := satAdd32 g.missed 1 } :=
          ⟨.inl (by rw [Part.unschedule_jobs, hstate]; rfl), Nat.zero_le _, chained_nil _ _,
            by rw [Part.entriesOf_unschedule_self]; rfl, hechoes.pulse⟩
        have hj := hjoins (p.unschedule j) { g with pendingList := [], missed := satAdd32 g.missed 1 } rfl rfl hreplaced (by decide : 0 < 8)
        refine (Within.unschedule.trans (.joinEcho hj)).timeLaw ho.cellLaw hp (Part.joinEcho_timedAt hd hr hkind hrange ?_ hj)
        rw [Part.entriesOf_unschedule_self]
        exact fun e he => nomatch he
    · split
      · next hempty =>
        rw [Bool.and_eq_true, List.isEmpty_iff] at hempty
        exact hjoin (by rw [hempty.1]; decide)
      · exact hmiss
  · exact hp

/-! ### The delivery of an edge (R11, R36) -/

theorem Part.takeEdge_keeps {acceptedIn : JobState} {e : Edge} (ho : p.Orderly) (hp : p.TimeLaw)
    (hacc : ahead p.time e.acceptance = 0) (hedge : -63 ≤ ahead p.time e.edgeTime ∧ ahead p.time e.edgeTime ≤ 0) :
    (p.takeEdge j acceptedIn e).TimeLaw := by
  unfold Part.takeEdge
  split
  · exact hp
  · next d hd =>
    split
    · next hstate =>
      split
      · split
        · exact Part.armed_keeps ho.cellLaw ho.scheduleLaw hp hstate hd (by omega)
        · exact hp
      · exact hp
      · exact hp
    · next hstate =>
      split
      · unfold Part.sourceEdge
        split
        · next hw => exact Part.takeCountEdge_keeps _ _ ho hp hd hw (by rw [hstate]; rfl)
        · next hw => exact Part.takeMeasureEdge_keeps ho hp hd hw hstate hedge
        · next hw => exact Part.takeEchoEdge_keeps ho hp hd hw hstate hacc hedge
        all_goals exact hp
      · exact hp
    all_goals exact hp

theorem Part.deliverTo_keeps (ho : p.Orderly) (hp : p.TimeLaw) : (p.deliverTo j).TimeLaw := by
  unfold Part.deliverTo
  split
  · exact hp
  · next x hx =>
    have hmem : x ∈ p.deliveries := List.mem_of_find?_eq_some hx
    have hremove : Timeless p (p.removeDelivery x) := ⟨rfl, rfl, List.erase_subset, rfl, rfl, rfl⟩
    obtain ⟨hacc, hedge⟩ := (p.timeLaw_iff.1 hp).2.2.2 x hmem
    have hmoves : Moves p (p.removeDelivery x) :=
      .single (.edges _ fun y hy => .inl (List.mem_of_mem_erase hy))
    exact (Part.takeEdge_keeps (ho.moves hmoves) (hp.timeless hremove) hacc hedge).timeless .arbitrate

end

end Sys2Proof.Machine
end

section
/-! SUPPORT. Deadlines and cell events keep the law of due times. -/

namespace Sys2Proof.Machine

open Sys2Proof

section
variable {p q : Part} {j : JobId} {d : Definition}

/-! ### The delivery of an entry (R83) -/

/-- A job whose entry of the given purpose has just left the schedule, due at `due`: what the laws say of it. -/
structure Part.Delivers (p : Part) (j : JobId) (purpose : Purpose) (due : Time) : Prop where
  orderly : p.Orderly
  but : p.TimeLawBut j
  inRange : p.jobs[j].InRange
  works : p.jobs[j].state.working = true
  purpose : (p.workOf j).bind Work.purpose = some purpose
  entries : p.entriesOf j = []
  near : -63 ≤ ahead p.time due ∧ ahead p.time due ≤ 0
  echoes : ∀ x g, p.workOf j = some (.echo x g) → g.pendingList.length ≤ 8 ∧
    chained p.time (g.pulse.map (fun u => u.endTime)) g.pendingList = true ∧ g.pendingList.head?.map (fun x => x.due) = some due

/-- The head of the schedule leaves it for its job. -/
theorem Part.popEntry_delivers {e : DeadlineEntry} {es : List DeadlineEntry} (ho : p.Orderly) (hp : p.TimeLaw)
    (hsched : p.schedule = e :: es) (hreached : reached p.time e.due = true) :
    p.popEntry.Delivers e.job e.purpose e.due := by
  have hmem : e ∈ p.schedule := by rw [hsched]; exact List.mem_cons_self
  have hrange := (p.timeLaw_iff.1 hp).1.2 e hmem
  have htimed := Part.timedAt_of_timeLaw hp e.job
  obtain ⟨hworks, hpurpose⟩ := ho.scheduleLaw.2 e hmem
  refine ⟨ho.moves (Steady.popEntry (j := e.job)).moves,
    (Within.popEntry hsched).timeLawBut ho.cellLaw (Part.timeLawBut_of_timeLaw hp e.job), htimed.inRange, hworks, hpurpose, ?_,
    ⟨hrange.1, (reached_iff_ahead (now := p.time) (by omega)).1 hreached⟩, fun x g hw => ?_⟩
  · have hothers := ho.scheduleLaw.1
    rw [hsched, List.pairwise_cons] at hothers
    refine List.filter_eq_nil_iff.2 fun x hx => ?_
    rw [Part.popEntry_schedule, hsched, List.tail_cons] at hx
    simpa using (hothers.1 x hx).symm
  · have hechoes : p.EchoTimed e.job g := htimed.echoes hw
    refine ⟨hechoes.few, hechoes.chain, hechoes.head.symm.trans ?_⟩
    simp [Part.entriesOf, hsched]

theorem Part.deliverDue_keeps {purpose : Purpose} {act : Part → JobId → Time → Part} (ho : p.Orderly) (hp : p.TimeLaw)
    (hact : ∀ (q : Part) (j : JobId) (due : Time), q.Delivers j purpose due → (act q j due).TimeLaw) :
    (p.deliverDue purpose act).TimeLaw := by
  unfold Part.deliverDue
  split
  · exact hp
  · next e he =>
    refine (hact _ _ _ ?_).timeless .arbitrate
    unfold Part.dueFor Part.dueEntry at he
    split at he
    · cases he
    · next x hx =>
      split at hx
      · cases hx
      · next e' es hsched =>
        rw [Option.ite_none_right_eq_some, Bool.and_eq_true] at hx
        obtain ⟨⟨-, hreached⟩, hx⟩ := hx
        cases hx
        rw [Option.ite_none_right_eq_some] at he
        obtain ⟨hpurpose, he⟩ := he
        cases he
        exact hpurpose ▸ Part.popEntry_delivers ho hp hsched hreached

theorem Part.Delivers.live {purpose : Purpose} {due : Time} (h : p.Delivers j purpose due) : p.jobs[j].state.live = true :=
  JobState.live_of_working h.works

theorem Part.Delivers.endJob {purpose : Purpose} {due : Time} (h : p.Delivers j purpose due) (cause : EndCause) (sample : Nat) :
    (p.endJob j cause due sample).TimeLaw :=
  Part.endJob_keeps cause due sample h.orderly h.but h.inRange h.live

theorem Part.Delivers.noStall {purpose : Purpose} {due : Time} (h : p.Delivers j purpose due) :
    ∀ e ∈ p.entriesOf j, e.purpose ≠ .stall := by
  rw [h.entries]
  exact fun e he => nomatch he

theorem Part.Delivers.work {purpose : Purpose} {due : Time} (h : p.Delivers j purpose due) :
    ∃ d, p.jobs[j].defn = some d ∧ d.work.purpose = some purpose := by
  obtain ⟨w, hw, hpurpose⟩ := Option.bind_eq_some_iff.1 h.purpose
  obtain ⟨d, hd, rfl⟩ := Part.workOf_iff.1 hw
  exact ⟨d, hd, hpurpose⟩

theorem Work.purpose_tick {w : Work} (h : w.purpose = some .tick) : ∃ k g, w = .tick k g := by
  cases w with
  | tick k g => exact ⟨k, g, rfl⟩
  | measure m g => cases hm : m.mode <;> simp [Work.purpose, hm] at h
  | count c g => cases h
  | delay k g => cases h
  | wave v g => cases h
  | echo x g => cases h

theorem Work.purpose_window {w : Work} (h : w.purpose = some .window) :
    ∃ m g sel window, w = .measure m g ∧ m.mode = .rate sel window := by
  cases w with
  | measure m g =>
    cases hm : m.mode with
    | rate sel window => exact ⟨m, g, sel, window, rfl, hm⟩
    | period => simp [Work.purpose, hm] at h
    | high => simp [Work.purpose, hm] at h
    | low => simp [Work.purpose, hm] at h
  | tick k g => cases h
  | count c g => cases h
  | delay k g => cases h
  | wave v g => cases h
  | echo x g => cases h

theorem Work.purpose_echoDue {w : Work} (h : w.purpose = some .echoDue) : ∃ x g, w = .echo x g := by
  cases w with
  | echo x g => exact ⟨x, g, rfl⟩
  | measure m g => cases hm : m.mode <;> simp [Work.purpose, hm] at h
  | tick k g => cases h
  | count c g => cases h
  | delay k g => cases h
  | wave v g => cases h

/-- A job that takes another work of its kind stays in range. -/
theorem Part.setWork_inRange {w : Work} (hd : p.jobs[j].defn = some d) (hr : p.jobs[j].InRange) (hkind : w.kind = d.work.kind)
    (hrange : w.inRange = true) : (p.setWork j w).jobs[j].InRange :=
  hr.withWork (d' := { d with work := w }) hd (Part.setWork_defn w hd) rfl hkind hrange (.inl (p.setWork_sameElse j w).2.1)

/-! ### DELAY, TICK and MEASURE (R68, R71, R87, R92) -/

theorem Part.takeExpiry_keeps {due : Time} (h : p.Delivers j .expiry due) : (p.takeExpiry j due).TimeLaw := by
  rw [Part.takeExpiry, if_pos h.works]
  exact h.endJob _ _

theorem Part.takeStall_keeps {due : Time} (h : p.Delivers j .stall due) : (p.takeStall j due).TimeLaw := by
  rw [Part.takeStall, if_pos h.works]
  exact h.endJob _ _

theorem Part.offerTick_job (number : BitVec 32) (time : Time) :
    ∃ lost, (p.offerTick j number time).jobs[j] = { p.jobs[j] with lost := lost } := by
  unfold Part.offerTick
  split
  · exact ⟨p.jobs[j].lost, rfl⟩
  · exact Part.offer_job ..

/-- The next tick stands one period after the last, a staged period being current from then on. -/
theorem Part.nextTick_keeps {k : TickParams} {g : TickProgress} {due : Time} (hd : p.jobs[j].defn = some d)
    (hw : d.work = .tick k g) (hr : p.jobs[j].InRange) (hstate : p.jobs[j].state = .running)
    (hdue : -63 ≤ ahead p.time due ∧ ahead p.time due ≤ 0) :
    Within j p (p.nextTick j k g due) ∧ (p.nextTick j k g due).TimedAt j := by
  have hrange := hr.work hd
  rw [hw] at hrange
  simp only [Work.inRange, Bool.and_eq_true, decide_eq_true_eq] at hrange
  have hplain : Within j p (p.place j .tick (plus due k.period)) ∧ (p.place j .tick (plus due k.period)).TimedAt j := by
    refine ⟨.place (Part.inReach_plus hdue (by omega)), Part.timedAt_of_plain (d := d) hd hr (by simp [hw, Work.kind]) ?_
      fun e he => Part.purpose_of_mem_place he ▸ by decide⟩
    rw [Part.place_jobs, hstate]
    exact fun h => nomatch h
  unfold Part.nextTick
  split
  · next period hstaged =>
    have hperiod := (hr d hd).2
    rw [hstaged, hw] at hperiod
    simp only [Option.all_some, Work.canStage, Bool.and_eq_true, decide_eq_true_eq] at hperiod
    have hset := Part.setWork_defn (p := p) (.tick { k with period := period } g) hd
    have hself : ((p.setWork j (.tick { k with period := period } g)).setStaged j none).jobs[j] =
        { (p.setWork j (.tick { k with period := period } g)).jobs[j] with staged := none } := Part.setStaged_jobs_self ..
    have hreach : ((p.setWork j (.tick { k with period := period } g)).setStaged j none).InReach (plus due period) :=
      Part.inReach_plus hdue (by omega)
    refine ⟨((Within.setWork _).trans (.setStaged none)).trans (.place hreach),
      Part.timedAt_of_plain (d := { d with work := .tick { k with period := period } g }) ?_ ?_ (by simp [Work.kind]) ?_
        fun e he => Part.purpose_of_mem_place he ▸ by decide⟩
    · rw [Part.place_jobs, hself]; exact hset
    · rw [Part.place_jobs, hself]
      refine hr.withWork (d' := { d with work := .tick { k with period := period } g }) hd hset rfl (by rw [hw]; rfl) ?_ (.inr rfl)
      simp only [Work.inRange, Bool.and_eq_true, decide_eq_true_eq]
      omega
    · rw [Part.place_jobs, hself]
      show (p.setWork j (.tick { k with period := period } g)).jobs[j].state ≠ .held
      rw [(p.setWork_sameElse j _).1, hstate]
      exact fun h => nomatch h
  · exact hplain
  · exact hplain

theorem Part.takeTick_keeps {due : Time} (h : p.Delivers j .tick due) : (p.takeTick j due).TimeLaw := by
  have hticked : ∀ k g, p.workOf j = some (.tick k g) → ∃ d, p.jobs[j].defn = some d ∧ d.work = .tick k g ∧
      (p.setWork j (.tick k g.ticked)).jobs[j].InRange ∧
      ∀ cause, ((p.setWork j (.tick k g.ticked)).endJob j cause due 0).TimeLaw := fun k g hw => by
    obtain ⟨d, hd, hw'⟩ := Part.workOf_iff.1 hw
    have hrange : (Work.tick k g.ticked).inRange = true := by have := h.inRange.work hd; rwa [hw'] at this
    have hr := Part.setWork_inRange (w := .tick k g.ticked) hd h.inRange (by rw [hw']; rfl) hrange
    exact ⟨d, hd, hw', hr, fun cause =>
      h.but.endJob cause due 0 h.orderly (.setWork (Part.fits_of_workOf hw rfl rfl)) (.setWork _) hr h.live⟩
  unfold Part.takeTick
  split
  · next k g hstate hw =>
    obtain ⟨d, hd, hw', hr, hend⟩ := hticked k g hw
    unfold Part.runningTick
    dsimp only
    split
    · exact hend _
    · obtain ⟨lost, hself⟩ := Part.offerTick_job (p := p.setWork j (.tick k g.ticked)) (j := j) g.ticked.ticksDone due
      have hbefore : Within j p ((p.setWork j (.tick k g.ticked)).offerTick j g.ticked.ticksDone due) :=
        (Within.setWork _).trans (.offerTick _ _)
      obtain ⟨hwithin, htimed⟩ := Part.nextTick_keeps (p := (p.setWork j (.tick k g.ticked)).offerTick j g.ticked.ticksDone due)
        (d := { d with work := .tick k g.ticked }) (by rw [hself]; exact Part.setWork_defn _ hd) rfl (by rw [hself]; exact hr)
        (by rw [hself]; exact (p.setWork_sameElse j _).1.trans hstate) (by rw [hbefore.time]; exact h.near)
      exact ((hbefore.trans hwithin).timeLawBut h.orderly.cellLaw h.but).timeLaw htimed
  · next k g hstate hw =>
    obtain ⟨-, -, -, -, hend⟩ := hticked k g hw
    exact hend _
  · next hrun hstop =>
    obtain ⟨d, hd, hpurpose⟩ := h.work
    obtain ⟨k, g, hw⟩ := Work.purpose_tick hpurpose
    have hw := (Part.workOf_of_defn hd).trans (congrArg some hw)
    rcases JobState.working_iff.1 h.works with hst | hst
    · exact absurd hw (hrun k g hst)
    · exact absurd hw (hstop k g hst)

/-- A window that ends ends its job, or its sample enters the statistics and the next window starts (R68). -/
theorem Part.takeWindow_keeps {due : Time} (h : p.Delivers j .window due) : (p.takeWindow j due).TimeLaw := by
  obtain ⟨d, hd, hpurpose⟩ := h.work
  obtain ⟨m, g, sel, window, hw, hmode⟩ := Work.purpose_window hpurpose
  have hwork : p.workOf j = some (.measure m g) := (Part.workOf_of_defn hd).trans (congrArg some hw)
  have hrange : (Work.measure m g).inRange = true := hw ▸ h.inRange.work hd
  unfold Part.takeWindow
  split
  · next m' g' hstate hw' =>
    cases hwork.symm.trans hw'
    unfold Part.closeWindow
    split
    · exact h.endJob _ _
    · obtain ⟨hd', hr', hstate', hentries'⟩ := Part.acceptSample_job (sample := p.countOf j) (t := due) hd h.inRange
        (by rw [hw]; rfl) hrange
      have hbefore : Within j p (p.acceptSample j m g (p.countOf j) due) := .acceptSample
      have hnear := hbefore.time ▸ h.near
      have hrange' : (Work.measure m (g.accept m (p.countOf j))).inRange = true := hrange
      refine ((hbefore.trans (.beginMeasure hrange' hnear)).timeLawBut h.orderly.cellLaw h.but).timeLaw
        (Part.beginMeasure_timedAt (g := g.accept m (p.countOf j)) hd' rfl hr' ?_ (hentries'.trans h.entries) (.inr ?_) hnear)
      · rw [hstate', hstate]; rfl
      · rw [hmode]; exact fun h => nomatch h
  · refine h.but.timeLaw (Part.timedAt_intro hd h.inRange ?_ fun e he hstall => absurd hstall (h.noStall e he))
    rw [hw]
    rcases JobState.working_iff.1 h.works with hst | hst <;> simp only [Part.workTimed, hst] <;> rfl

/-! ### ECHO (R114, R115) -/

theorem Part.phaseOf_setPhase {ph : Option CellPhase} (h : p.jobs[j].cells ≠ []) : (p.setPhase j ph).phaseOf j = ph := by
  cases hcells : p.jobs[j].cells with
  | nil => exact absurd hcells h
  | cons c cs =>
    simp only [Part.phaseOf, Part.setPhase_jobs, hcells]
    exact congrArg Cell.phase (Part.setPhase_cell ph (by rw [hcells]; rfl))

/-- A live ECHO job holds its cell (R24). -/
theorem Part.echo_cells {x : EchoParams} {g : EchoProgress} (hlaw : p.CellLaw) (hlive : p.jobs[j].state.live = true)
    (hw : p.workOf j = some (.echo x g)) : p.jobs[j].cells ≠ [] := by
  intro hnone
  have := hlaw.1 j hlive
  rw [hw, hnone] at this
  cases this

/-- With the pulse before it over, a list stands clear of nothing but the present. -/
theorem chained_unblocked {now : Time} {before : Option Time} {l : List PendingPulse} (hb : EndsWithin now 16777215 before)
    (h : chained now before l = true) : chained now none l = true := by
  cases l with
  | nil => rfl
  | cons x xs =>
    obtain ⟨hx, hxs⟩ := chained_cons.1 h
    exact chained_cons.2 ⟨⟨hx.width, hx.notBehind, (fun _ h => nomatch h),
      .inr (hx.endsWithin ⟨Nat.le_refl _, by decide⟩ hb).1⟩, hxs⟩

/-- What the beginning of a pulse needs: the head of the list begins it at the present, and the rest stands clear of its end. -/
structure Part.Begins (p : Part) (j : JobId) (head : PendingPulse) (rest : List PendingPulse) : Prop where
  works : p.jobs[j].state.working = true
  cells : p.jobs[j].cells ≠ []
  few : rest.length ≤ 8
  width : 1 ≤ head.width ∧ head.width ≤ 65535
  chain : chained p.time (some (plus p.time head.width)) rest = true

/-- The pulse of a head that is due now. -/
theorem Part.begins_of_chained {head : PendingPulse} {rest : List PendingPulse} {before : Option Time}
    (hworks : p.jobs[j].state.working = true) (hcells : p.jobs[j].cells ≠ []) (hfew : (head :: rest).length ≤ 8)
    (hdue : head.due = p.time) (h : chained p.time before (head :: rest) = true) : p.Begins j head rest := by
  obtain ⟨hhead, hrest⟩ := chained_cons.1 h
  rw [List.length_cons] at hfew
  exact ⟨hworks, hcells, by omega, hhead.width, hdue ▸ hrest⟩

theorem Part.Begins.endsWithin {head : PendingPulse} {rest : List PendingPulse} (h : p.Begins j head rest) :
    0 ≤ ahead p.time (plus p.time head.width) ∧ ahead p.time (plus p.time head.width) ≤ 65535 := by
  have := h.width
  rw [ahead_now_plus (by omega)]
  omega

theorem Part.Begins.inReach {head next : PendingPulse} {rest : List PendingPulse} (h : p.Begins j head (next :: rest)) :
    p.InReach next.due := by
  obtain ⟨hnext, -⟩ := chained_cons.1 h.chain
  have hend := h.endsWithin
  have hnear := (hnext.endsWithin (n := 16777215) (by omega) fun t ht => by
    obtain rfl := Option.some.inj ht
    omega).1
  have := hnext.notBehind
  unfold Part.InReach
  omega

theorem Within.beginPulse {x : EchoParams} {g : EchoProgress} {head : PendingPulse} {rest : List PendingPulse}
    (hlist : g.pendingList = head :: rest) (h : p.Begins j head rest) : Within j p (p.beginPulse j x g p.time) := by
  simp only [Part.beginPulse, hlist]
  have hbefore : ∀ w ph, Within j p (((p.setWork j w).driveActive j).setPhase j ph) := fun w ph =>
    ((Within.setWork w).trans .driveActive).trans (.setPhase ph)
  cases rest with
  | nil => exact hbefore _ _
  | cons next rest =>
    refine (hbefore _ _).trans (.place ?_)
    unfold Part.InReach
    rw [(hbefore _ _).time]
    exact h.inReach

theorem Part.beginPulse_timedAt {x : EchoParams} {g : EchoProgress} {head : PendingPulse} {rest : List PendingPulse}
    (hd : p.jobs[j].defn = some d) (hr : p.jobs[j].InRange) (hkind : d.work.kind = .echo)
    (hrange : (Work.echo x g).inRange = true) (hentries : p.entriesOf j = []) (hlist : g.pendingList = head :: rest)
    (h : p.Begins j head rest) : (p.beginPulse j x g p.time).TimedAt j := by
  generalize hg' : { g with pendingList := rest, pulse := some { beginTime := p.time, endTime := plus p.time head.width } } = g'
  have hrest : g'.pendingList = rest := by rw [← hg']
  have hpulse : g'.pulse = some { beginTime := p.time, endTime := plus p.time head.width } := by rw [← hg']
  have hset := Part.setWork_defn (p := p) (.echo x g') hd
  obtain ⟨hsame, hstaged, -⟩ := p.setWork_sameElse j (.echo x g')
  generalize hq : ((p.setWork j (.echo x g')).driveActive j).setPhase j (some { start := p.time, length := head.width }) = q
  have hjobs : q.jobs = (p.setWork j (.echo x g')).jobs := by rw [← hq]; simp
  have htime : q.time = p.time := by rw [← hq]; simp
  have hphase : q.phaseOf j = some { start := p.time, length := head.width } := by
    rw [← hq]
    refine Part.phaseOf_setPhase ?_
    rw [Part.driveActive_jobs]
    exact (congrArg Job.cells (p.setWork_jobs_self j (.echo x g'))).trans_ne h.cells
  have htimed : ∀ r : Part, r.time = q.time → r.jobs = q.jobs → r.cells = q.cells →
      (r.entriesOf j).head?.map (fun e => e.due) = rest.head?.map (fun x => x.due) →
      (∀ e ∈ r.entriesOf j, e.purpose ≠ .stall) → r.TimedAt j := fun r htime' hjobs' hcells' hhead hentries' => by
    have hrjobs : r.jobs = (p.setWork j (.echo x g')).jobs := hjobs'.trans hjobs
    have hrphase : r.phaseOf j = some { start := p.time, length := head.width } := by
      rw [← hphase]; simp only [Part.phaseOf, hjobs', hcells']
    refine Part.timedAt_withEcho (g := g') hd hr (by rw [hrjobs]; exact hset) (by rw [hrjobs]; exact hstaged) hkind hrange
      ⟨.inl ?_, ?_, ?_, ?_, fun u hu => ?_⟩ hentries'
    · rw [hrjobs]; exact (congrArg JobState.working hsame).trans h.works
    · rw [hrest]; exact h.few
    · rw [hrest, hpulse, htime', htime]; exact h.chain
    · rw [hrest]; exact hhead
    · obtain rfl := Option.some.inj (hpulse.symm.trans hu)
      rw [hrphase, htime', htime]
      exact ⟨h.endsWithin.1, h.endsWithin.2, rfl⟩
  have hnone : q.entriesOf j = [] := (Part.entriesOf_congr (by rw [← hq]; simp)).trans hentries
  simp only [Part.beginPulse, hlist, hg', hq]
  cases rest with
  | nil => exact htimed q rfl rfl rfl (by rw [hnone]; rfl) (by rw [hnone]; exact fun e he => nomatch he)
  | cons next rest =>
    exact htimed _ rfl rfl rfl (by rw [Part.entriesOf_place_self]; rfl) fun e he => Part.purpose_of_mem_place he ▸ by decide

theorem Part.takeEchoDue_keeps {due : Time} (h : p.Delivers j .echoDue due) : (p.takeEchoDue j due).TimeLaw := by
  obtain ⟨d, hd, hpurpose⟩ := h.work
  obtain ⟨x, g, hw⟩ := Work.purpose_echoDue hpurpose
  have hwork : p.workOf j = some (.echo x g) := (Part.workOf_of_defn hd).trans (congrArg some hw)
  have hrange : (Work.echo x g).inRange = true := hw ▸ h.inRange.work hd
  have hkind : d.work.kind = .echo := by rw [hw]; rfl
  have hlaw := h.orderly.cellLaw
  obtain ⟨hfew, hchain, hhead⟩ := h.echoes x g hwork
  have hdone : (p.echoDueAt j x g due).TimeLaw := by
    cases hlist : g.pendingList with
    | nil => rw [hlist] at hhead; cases hhead
    | cons head rest =>
      rw [hlist] at hhead hchain hfew
      obtain rfl : head.due = due := Option.some.inj hhead
      have hnow : head.due = p.time := by
        have := (chained_cons.1 hchain).1.notBehind
        have := h.near
        exact eq_of_ahead_eq_zero (by omega)
      have hbegins : p.Begins j head rest :=
        Part.begins_of_chained h.works (Part.echo_cells hlaw h.live hwork) hfew hnow hchain
      have hpulse : ∀ g' : EchoProgress, g'.pendingList = head :: rest → (p.beginPulse j x g' p.time).TimeLaw :=
        fun g' hlist' => ((Within.beginPulse hlist' hbegins).timeLawBut hlaw h.but).timeLaw
          (Part.beginPulse_timedAt hd h.inRange hkind hrange h.entries hlist' hbegins)
      unfold Part.echoDueAt
      rw [hnow]
      split
      · exact hpulse g hlist
      · split
        · exact h.but.endJob _ _ _ h.orderly (.setWork (Part.fits_of_workOf hwork rfl rfl)) (.setWork _)
            (Part.setWork_inRange hd h.inRange hkind.symm hrange) h.live
        · exact hpulse g.counted hlist
  unfold Part.takeEchoDue
  split
  · next hw' => cases hwork.symm.trans hw'; exact hdone
  · next hw' => cases hwork.symm.trans hw'; exact hdone
  · next hrun hstop =>
    rcases JobState.working_iff.1 h.works with hst | hst
    · exact absurd hwork (hrun x g hst)
    · exact absurd hwork (hstop x g hst)

end

end Sys2Proof.Machine
end

section
/-! SUPPORT. The events of the cells keep the law of due times. -/

namespace Sys2Proof.Machine

open Sys2Proof

section
variable {p q : Part} {j : JobId} {d : Definition}

/-! ### WAVE (R100, R102, R103) -/

/-- A working WAVE job with another progress stays timed. -/
theorem Part.setWave_timedAt {w : WaveParams} {g g' : WaveProgress} (ho : p.Orderly) (hp : p.TimeLaw)
    (hwork : p.workOf j = some (.wave w g)) : ∃ d, p.jobs[j].defn = some d ∧ d.work = .wave w g ∧
      (p.setWork j (.wave w g')).TimedAt j := by
  obtain ⟨d, hd, hw⟩ := Part.workOf_iff.1 hwork
  have hr := (Part.timedAt_of_timeLaw hp j).inRange
  refine ⟨d, hd, hw, Part.setWork_timedAt hd hr (by rw [hw]; rfl) (by have := hr.work hd; rwa [hw] at this) rfl fun e he hpurpose => ?_⟩
  exact absurd hpurpose (Part.entriesOf_noStall ho.scheduleLaw hwork (fun h => nomatch h) e he)

theorem Part.turnStep_keeps (ho : p.Orderly) (hp : p.TimeLaw) : (p.turnStep j).TimeLaw := by
  unfold Part.turnStep
  split
  · exact hp
  · next w g hdue =>
    obtain ⟨-, -, -, htimed⟩ := Part.setWave_timedAt (g' := { g with turnsLeft := g.turnsLeft - 1 }) ho hp (Part.turnDue_some hdue)
    exact (Within.setWork _).timeLaw ho.cellLaw hp htimed

theorem Part.activePhaseStep_keeps (ho : p.Orderly) (hp : p.TimeLaw) : (p.activePhaseStep j).TimeLaw := by
  unfold Part.activePhaseStep
  split
  · exact hp
  · next w g t hdue =>
    obtain ⟨hwork, hworks⟩ := Part.wavePhaseDue_some hdue
    obtain ⟨d, hd, hw, htimed⟩ := Part.setWave_timedAt
      (g' := { g with phase := some .idle, turnsLeft := turnsOf (w.period - w.width) }) ho hp hwork
    unfold Part.endActivePhase
    refine (((Within.setWork _).trans .driveIdle).trans (.setPhase _)).timeLaw ho.cellLaw hp ?_
    have hset := Part.setWork_defn (p := p) (.wave w { g with phase := some .idle, turnsLeft := turnsOf (w.period - w.width) }) hd
    refine Part.timedAt_of_plain ((congrArg Job.defn (by simp)).trans hset) ?_ (by simp [Work.kind]) ?_ fun e he => ?_
    · simp only [Part.setPhase_jobs, Part.driveIdle_jobs]; exact htimed.inRange
    · simp only [Part.setPhase_jobs, Part.driveIdle_jobs]
      rw [(p.setWork_sameElse j _).1]
      intro hst
      rw [hst] at hworks
      cases hworks
    · rw [Part.entriesOf_congr (p := p) (by simp)] at he
      exact Part.entriesOf_noStall ho.scheduleLaw hwork (fun h => nomatch h) e he

/-- The end of a period ends the job, or the next begins with any staged pair (R103). -/
theorem Part.endPeriod_keeps {w : WaveParams} {g : WaveProgress} (t : Time) (ho : p.Orderly) (hp : p.TimeLaw)
    (hwork : p.workOf j = some (.wave w g)) (hworks : p.jobs[j].state.working = true) : (p.endPeriod j w g t).TimeLaw := by
  obtain ⟨d, hd, hw, htimed⟩ := Part.setWave_timedAt (g' := g.counted) ho hp hwork
  have hr := (Part.timedAt_of_timeLaw hp j).inRange
  have hbut := Part.timeLawBut_of_timeLaw hp j
  have hend : ∀ cause, ((p.setWork j (.wave w g.counted)).endJob j cause t 0).TimeLaw := fun cause =>
    hbut.endJob cause t 0 ho (.setWork (Part.fits_of_workOf hwork rfl rfl)) (.setWork _) htimed.inRange
      (JobState.live_of_working hworks)
  unfold Part.endPeriod
  dsimp only
  split
  · exact hend _
  · split
    · exact hend _
    · have hset := Part.setWork_defn (p := p) (.wave w g.counted) hd
      have hself : ((p.setWork j (.wave w g.counted)).setStaged j none).jobs[j] =
          { (p.setWork j (.wave w g.counted)).jobs[j] with staged := none } := Part.setStaged_jobs_self ..
      have hrange : (Work.wave w g.counted).inRange = true := by have := hr.work hd; rwa [hw] at this
      refine (((Within.setWork _).trans (.setStaged none)).trans .beginPeriod).timeLaw ho.cellLaw hp
        (Part.beginPeriod_timedAt (d := { d with work := .wave w g.counted }) (by rw [hself]; exact hset) ?_ rfl ?_ ?_)
      · rw [hself]
        exact hr.withWork (d' := { d with work := .wave w g.counted }) hd hset rfl (by rw [hw]; rfl) hrange (.inr rfl)
      · refine WaveParams.applyStaged_inRange (g := g.counted) hrange ?_
        have hstaged := (hr d hd).2
        rwa [hw, show (Work.wave w g).canStage = (Work.wave w g.counted).canStage from funext (Work.canStage_congr rfl)] at hstaged
      · exact Part.entriesOf_noStall (p := p) ho.scheduleLaw hwork (fun h => nomatch h)

theorem Part.periodStep_keeps (ho : p.Orderly) (hp : p.TimeLaw) : (p.periodStep j).TimeLaw := by
  unfold Part.periodStep
  split
  · exact hp
  · next w g t hdue =>
    obtain ⟨hwork, hworks⟩ := Part.wavePhaseDue_some hdue
    exact (Part.endPeriod_keeps t ho hp hwork hworks).timeless .arbitrate

/-! ### ECHO (R115) -/

/-- A pulse is due to end at the end of the phase of its job's cell, which device time has reached. -/
theorem Part.pulseDue_phase {x : EchoParams} {g : EchoProgress} {t : Time} (h : p.pulseDue j = some (x, g, t)) :
    g.pulse ≠ none ∧ (p.phaseOf j).map (fun ph => ph.endTime) = some t ∧ reached p.time t = true := by
  obtain ⟨d, ph, htimes, -, hpulse, hreached, rfl⟩ := (State.pulseDue_iff (s := { toPart := p, pending := [] })).1 h
  obtain ⟨-, -, -, hof⟩ := State.times_iff.1 htimes
  have hof : p.phaseOf j = some ph := hof
  exact ⟨hpulse, by rw [hof]; rfl, hreached⟩

/-- The end of a pulse, at the present, ends the job, begins the next pulse, or leaves the list to wait (R115). -/
theorem Part.endPulse_keeps {x : EchoParams} {g : EchoProgress} (ho : p.Orderly) (hp : p.TimeLaw)
    (hwork : p.workOf j = some (.echo x g)) (hworks : p.jobs[j].state.working = true) :
    (p.endPulse j x g p.time).TimeLaw := by
  obtain ⟨d, hd, hw⟩ := Part.workOf_iff.1 hwork
  have htimed := Part.timedAt_of_timeLaw hp j
  have hbut := Part.timeLawBut_of_timeLaw hp j
  have hlive := JobState.live_of_working hworks
  have hr := htimed.inRange
  have hkind : d.work.kind = .echo := by rw [hw]; rfl
  have hrange : (Work.echo x g).inRange = true := hw ▸ hr.work hd
  have hechoes := htimed.echoes hwork
  have hnostall := Part.entriesOf_noStall ho.scheduleLaw hwork (by simp [Work.purpose])
  have hset := Part.setWork_defn (p := p) (.echo x g.counted) hd
  obtain ⟨hsame, hstaged, -⟩ := p.setWork_sameElse j (.echo x g.counted)
  have hsetr := Part.setWork_inRange (w := .echo x g.counted) hd hr hkind.symm hrange
  have hbefore : Within j p ((p.setWork j (.echo x g.counted)).setPhase j none) := (Within.setWork _).trans (.setPhase _)
  have hsteady : Steady j p ((p.setWork j (.echo x g.counted)).setPhase j none) :=
    (Steady.setWork (w := .echo x g.counted) (Part.fits_of_workOf hwork rfl rfl)).trans (.setPhase none)
  have hjobs : ((p.setWork j (.echo x g.counted)).setPhase j none).jobs = (p.setWork j (.echo x g.counted)).jobs := by simp
  have hsched : ((p.setWork j (.echo x g.counted)).setPhase j none).schedule = p.schedule := by simp
  unfold Part.endPulse
  generalize (p.setWork j (.echo x g.counted)).setPhase j none = r at hbefore hsteady hjobs hsched
  have hrr : r.jobs[j].InRange := by rw [hjobs]; exact hsetr
  have hend : ∀ cause, (r.endJob j cause p.time 0).TimeLaw := fun cause =>
    hbut.endJob cause p.time 0 ho hsteady hbefore hrr hlive
  have hidle : (r.driveIdle j).TimeLaw := by
    have hdrive : Within j r (r.driveIdle j) := .driveIdle
    refine (hbefore.trans .driveIdle).timeLaw ho.cellLaw hp (Part.timedAt_withEcho (g := g.counted) hd hr ?_ ?_ hkind hrange
      ⟨.inl ?_, hechoes.few, ?_, ?_, fun u hu => nomatch hu⟩ ?_)
    · rw [Part.driveIdle_jobs, hjobs]; exact hset
    · rw [Part.driveIdle_jobs, hjobs]; exact hstaged
    · rw [Part.driveIdle_jobs, hjobs]; exact (congrArg JobState.working hsame).trans hworks
    · rw [(hbefore.trans hdrive).time]; exact chained_unblocked hechoes.endsWithin hechoes.chain
    · rw [Part.entriesOf_congr (p := p) (by simpa using hsched)]; exact hechoes.head
    · rw [Part.entriesOf_congr (p := p) (by simpa using hsched)]; exact hnostall
  dsimp only
  split
  · exact hend _
  · split
    · split
      · exact hend _
      · exact hidle
    · next head rest hlist =>
      split
      · next hdue =>
        have hchain := hechoes.chain
        have hfew := hechoes.few
        rw [hlist] at hchain hfew
        have hbegins : p.Begins j head rest :=
          Part.begins_of_chained hworks (Part.echo_cells ho.cellLaw hlive hwork) hfew hdue hchain
        have hoff : Within j p (r.unschedule j) := hbefore.trans .unschedule
        have hqbegins : (r.unschedule j).Begins j head rest := by
          obtain ⟨-, hcells, hfew, hwidth, hchain⟩ := hbegins
          refine ⟨(congrArg JobState.working hsteady.state).trans hworks, ?_, hfew, hwidth, ?_⟩
          · rw [Part.unschedule_jobs, hjobs]
            exact (congrArg Job.cells (p.setWork_jobs_self j (.echo x g.counted))).trans_ne hcells
          · rw [hoff.time]; exact hchain
        have hlist' : g.counted.pendingList = head :: rest := hlist
        have hrange' : (Work.echo x g.counted).inRange = true := hrange
        rw [← hoff.time]
        refine (hoff.trans (.beginPulse hlist' hqbegins)).timeLaw ho.cellLaw hp
          (Part.beginPulse_timedAt (d := { d with work := .echo x g.counted }) ?_ hrr rfl hrange'
            (Part.entriesOf_unschedule_self ..) hlist' hqbegins)
        rw [Part.unschedule_jobs, hjobs]
        exact hset
      · exact hidle

theorem Part.pulseStep_keeps (ho : p.Orderly) (hp : p.TimeLaw) : (p.pulseStep j).TimeLaw := by
  unfold Part.pulseStep
  split
  · exact hp
  · next x g t hdue =>
    obtain ⟨hwork, hworks⟩ := Part.pulseDue_some hdue
    obtain ⟨hpulse, hphase, hreached⟩ := Part.pulseDue_phase hdue
    obtain ⟨u, hu⟩ := Option.ne_none_iff_exists'.1 hpulse
    obtain ⟨hlow, -, hends⟩ := ((Part.timedAt_of_timeLaw hp j).echoes hwork).pulse u hu
    obtain rfl : u.endTime = t := Option.some.inj (hends.symm.trans hphase)
    have hnow : u.endTime = p.time := by
      have := (reached_iff_ahead (now := p.time) (by omega)).1 hreached
      exact eq_of_ahead_eq_zero (by omega)
    have hkeeps := Part.endPulse_keeps ho hp hwork hworks
    rw [← hnow] at hkeeps
    exact hkeeps.timeless .arbitrate

end

end Sys2Proof.Machine
end

section
/-! SUPPORT. The link, the port and the resets keep the law of due times. -/

namespace Sys2Proof.Machine

open Sys2Proof

section
variable {p q : Part} {j : JobId}

/-! ### The link (R143–R145) -/

theorem Part.timerStep_timeless : Timeless p p.timerStep := by
  unfold Part.timerStep
  split
  · split
    · exact .refl
    · exact Timeless.trans (.setReports _) .arbitrate
  · exact .refl

theorem Part.applyPolicy_keeps (policy : LossPolicy) (lostAt : Time) (ho : p.Orderly) (hp : p.TimeLaw) :
    (p.applyPolicy j policy lostAt).TimeLaw := by
  have hend : ∀ st, p.jobs[j].state = st → st.live = true → (p.endJob j .linkLost lostAt 0).TimeLaw := fun st hst hlive =>
    hp.endJob _ _ _ ho (by rw [hst]; exact hlive)
  unfold Part.applyPolicy
  split
  case h_3 hst =>
    obtain ⟨d, hd⟩ := ho.defn (j := j) (by rw [hst]; exact fun h => nomatch h)
    exact Part.holdJob_keeps ho.cellLaw hp hd
  case h_2 hst => exact hend _ hst rfl
  case h_4 hst => exact hend _ hst rfl
  case h_9 hst => exact hend _ hst rfl
  case h_10 hst => exact hend _ hst rfl
  case h_11 hst => exact hend _ hst rfl
  case h_12 hst => exact hend _ hst rfl
  all_goals exact hp

theorem Part.lossStep_keeps (ho : p.Orderly) (hp : p.TimeLaw) : (p.lossStep j).TimeLaw := by
  unfold Part.lossStep
  split
  · exact hp
  · next d _ =>
    have hmove : Move p (p.removeLossDelivery d) := .reports _ (fun h => h.congr rfl rfl rfl rfl) rfl id
    have htimeless : Timeless p (p.removeLossDelivery d) := .setReports _
    exact (Part.applyPolicy_keeps _ _ (ho.moves (.single hmove)) (hp.timeless htimeless)).timeless .arbitrate

/-! ### The port (R151–R160) -/

theorem Part.settleFrame_timeless (bytes : List Byte) : Timeless p (p.settleFrame bytes) := by
  unfold Part.settleFrame
  split
  · exact .setPort _
  · split <;> exact .setPort _

theorem Part.receiveByte_timeless (b : Byte) : Timeless p (p.receiveByte b) := by
  unfold Part.receiveByte
  split
  · split <;> exact .setPort _
  · split <;> exact .setPort _
  · split <;> exact .setPort _
  · split
    · exact Timeless.trans (q := p.setReceiver .hunt) (.setPort _) (Part.settleFrame_timeless _)
    · exact .setPort _
  · exact .refl

theorem Part.byteStep_timeless (c : RxCharacter) : Timeless p (p.byteStep c) := by
  have hwait : Timeless p p.endHighWait := .setPort _
  unfold Part.byteStep
  split
  · split
    · exact hwait.trans (Part.receiveByte_timeless c.data)
    · exact hwait
  · exact .refl

theorem Part.gapStep_timeless : Timeless p p.gapStep := by
  unfold Part.gapStep
  split
  · exact .setPort _
  · exact .refl

theorem Part.breakStep_timeless : Timeless p p.breakStep := by
  unfold Part.breakStep
  split
  · dsimp only
    split <;> exact .setPort _
  · exact .refl

theorem Part.breakEndStep_timeless : Timeless p p.breakEndStep := by
  unfold Part.breakEndStep
  split
  · split <;> exact .setPort _
  · exact .refl

theorem Part.frameEndStep_timeless : Timeless p p.frameEndStep := by
  unfold Part.frameEndStep
  split
  · exact .refl
  · split
    · exact .refl
    · exact Timeless.trans (.setPort _) .arbitrate

/-! ### Resets (R29, R44, R163) -/

/-- With all jobs FREE, an empty schedule, no edges outstanding and fresh input lines, nothing is timed. -/
theorem Part.timeLaw_of_fresh (hjobs : q.jobs = Vector.replicate 32 Job.free) (hsched : q.schedule = []) (hdel : q.deliveries = [])
    (hinputs : ∀ i : InId, ∃ level, q.inputs[i] = InputLine.fresh level) : q.TimeLaw := by
  have hjob : ∀ j : JobId, q.jobs[j] = Job.free := fun j => by simp [hjobs]
  refine q.timeLaw_iff.2 ⟨⟨?_, ?_⟩, fun j => Part.timedAt_of_free (by rw [hjob]; rfl) (by simp [Part.entriesOf, hsched]),
    fun i => Part.lineTimed_iff.2 ?_, ?_⟩
  · rw [hsched]; exact .nil
  · rw [hsched]; exact fun e he => nomatch he
  · obtain ⟨level, hlevel⟩ := hinputs i
    rw [hlevel]
    exact ⟨(by decide : Config.defaultFilter ≤ 63), fun _ h => nomatch h⟩
  · unfold Part.EdgesTimed
    rw [hdel]
    exact fun x hx => nomatch hx

theorem freshInputs_fresh (inputs : BitVec 16) (i : InId) : ∃ level, (freshInputs inputs)[i] = InputLine.fresh level :=
  ⟨levelOfBit (inputs.getLsbD i.val), by simp [freshInputs]⟩

theorem Part.commandReset_timeLaw (inputs : BitVec 16) : (p.commandReset inputs).TimeLaw :=
  Part.timeLaw_of_fresh rfl rfl rfl (freshInputs_fresh inputs)

theorem Part.inReset_timeLaw (hold : ResetHold) : (p.inReset hold).TimeLaw :=
  Part.timeLaw_of_fresh rfl rfl rfl fun i => ⟨p.inputs[i].filtered, by simp [Part.inReset]⟩

theorem Part.complete_timeLaw (cause : ResetCause) (straps : BitVec 2) (inputs : BitVec 16) :
    (p.complete cause straps inputs).TimeLaw :=
  Part.timeLaw_of_fresh rfl rfl rfl (freshInputs_fresh inputs)

theorem Timeless.setResetN (level : Level) : Timeless p { p with resetN := level } := ⟨rfl, rfl, fun _ h => h, rfl, rfl, rfl⟩

theorem Part.commandResetStep_keeps (inputs : BitVec 16) (hp : p.TimeLaw) : (p.commandResetStep inputs).TimeLaw := by
  unfold Part.commandResetStep
  split
  · exact hp
  · split
    · exact Part.commandReset_timeLaw inputs
    · exact hp

theorem Part.pinResetStep_keeps (hp : p.TimeLaw) : p.pinResetStep.TimeLaw := by
  unfold Part.pinResetStep
  split
  case h_1 => exact (Part.inReset_timeLaw .pin).timeless (.setResetN _)
  all_goals exact hp.timeless (.setResetN _)

theorem Part.pinCompletionStep_keeps (straps : BitVec 2) (inputs : BitVec 16) (hp : p.TimeLaw) :
    (p.pinCompletionStep straps inputs).TimeLaw := by
  unfold Part.pinCompletionStep
  split
  case h_2 => exact (Part.complete_timeLaw .pin straps inputs).timeless (.setResetN _)
  case h_4 => exact (Part.complete_timeLaw .power straps inputs).timeless (.setResetN _)
  all_goals exact hp.timeless (.setResetN _)

theorem Part.powerCompletionStep_keeps (straps : BitVec 2) (inputs : BitVec 16) (hp : p.TimeLaw) :
    (p.powerCompletionStep straps inputs).TimeLaw := by
  unfold Part.powerCompletionStep
  split
  case h_1 => exact Part.complete_timeLaw .power straps inputs
  case h_2 => exact hp.timeless ⟨rfl, rfl, fun _ h => h, rfl, rfl, rfl⟩
  all_goals exact hp

end

end Sys2Proof.Machine
end

section
/-! SUPPORT. The running of device time keeps the law of due times, for it runs only while nothing is due (R30, R83). -/

namespace Sys2Proof.Machine

open Sys2Proof

section
variable {p : Part} {j : JobId} {d : Definition}

/-! ### While nothing is due -/

/-- No edge is outstanding, and every due time of the schedule, of a change under filtering and of a pulse lies ahead. -/
structure Part.Waits (p : Part) : Prop where
  deliveries : p.deliveries = []
  schedule : ∀ e ∈ p.schedule, 0 < ahead p.time e.due
  lines : ∀ (i : InId) (c : LineChange), p.inputs[i].change = some c → 0 < ahead p.time (plus c.firstSeen c.filterTime)
  pulses : ∀ (j : JobId) (x : EchoParams) (g : EchoProgress) (u : Pulse), p.workOf j = some (.echo x g) → g.pulse = some u →
    0 < ahead p.time u.endTime

/-- A time not behind the present that has not been reached lies ahead. -/
theorem ahead_pos_of_not_reached {now t : Time} (hlow : -2 ^ 47 < ahead now t) (h : ¬ reached now t = true) : 0 < ahead now t := by
  have := mt (reached_iff_ahead hlow).2 h
  omega

theorem waits_of_enabled {s : State} (hp : s.toPart.TimeLaw) (hclock : s.clocked = true) (h : s.enabled = []) : s.toPart.Waits := by
  have hnone : ∀ i, ¬ i ∈ s.enabled := fun i => by rw [h]; exact List.not_mem_nil
  obtain ⟨hranged, htimed, hlines, -⟩ := s.toPart.timeLaw_iff.1 hp
  refine ⟨List.eq_nil_iff_forall_not_mem.2 fun x hx => hnone (.edgeDelivery (x.job.val + 1)) (State.mem_enabled.2 (.inr (.inl ⟨x, hx, rfl⟩))), ?_, ?_, ?_⟩
  · cases hsched : s.schedule with
    | nil => exact fun e he => nomatch he
    | cons e es =>
      obtain ⟨hsorted, hrange⟩ := hranged
      rw [hsched] at hsorted hrange
      have hhead : 0 < ahead s.time e.due := by
        have := hrange e List.mem_cons_self
        refine ahead_pos_of_not_reached (by omega) fun hreached => hnone e.purpose.row (State.mem_enabled.2 (.inr (.inr (.inl ?_))))
        exact Part.mem_dueDeadline.2 ⟨e, es, hsched, hclock, hreached, rfl⟩
      intro x hx
      rcases List.mem_cons.1 hx with rfl | hx
      · exact hhead
      · exact Int.lt_of_lt_of_le hhead (List.rel_of_pairwise_cons hsorted hx)
  · intro i c hc
    have := (Part.lineTimed_iff.1 (hlines i)).2 c hc
    refine ahead_pos_of_not_reached (by omega) fun hreached => hnone (.edgeAcceptance i.val) (State.mem_enabled.2 (.inl ?_))
    exact Part.mem_dueAcceptances.2 ⟨i, c, rfl, hclock, hc, hreached⟩
  · intro j x g u hwork hu
    obtain ⟨d, hd, hw⟩ := Part.workOf_iff.1 hwork
    have hechoes := (htimed j).echoes hwork
    obtain ⟨hlow, -, hends⟩ := hechoes.pulse u hu
    obtain ⟨ph, hph, hend⟩ := Option.map_eq_some_iff.1 hends
    have hworks : s.jobs[j].state.working = true := hechoes.rests.resolve_right fun h => by rw [hu] at h; exact nomatch h.2
    refine ahead_pos_of_not_reached (by omega) fun hreached => ?_
    refine hnone (.pulseEnd (j.val + 1)) (State.mem_enabled.2 (.inr (.inr (.inr (.inr (.inl ⟨j, d, ph, x, g, ?_⟩))))))
    exact ⟨State.times_iff.2 ⟨hclock, hworks, hd, hph⟩, hw, Option.ne_none_iff_exists'.2 ⟨u, hu⟩, hend ▸ hreached, rfl⟩

/-! ### The pending list -/

theorem ClearOf.advance {now : Time} {before : Option Time} {x : PendingPulse} (h : ClearOf now before x)
    (hbefore : ∀ t, before = some t → 0 < ahead now t) (hx : 0 < ahead now x.due) : ClearOf (now + 1#48) before x := by
  have hdue : ahead (now + 1#48) x.due = ahead now x.due - 1 := ahead_advance (by omega)
  refine ⟨h.width, by omega, fun t ht => ?_, h.near.imp_right fun hnear => by omega⟩
  have hpos := hbefore t ht
  have := h.clear t ht
  rw [ahead_advance (by omega)]
  omega

/-- A list that stands ahead of the present stays chained as a microsecond passes. -/
theorem chained_advance {now : Time} {l : List PendingPulse} : ∀ {before : Option Time} {n : Nat},
    16777215 ≤ n → n + 65535 * l.length ≤ 2 ^ 30 → EndsWithin now n before → (∀ t, before = some t → 0 < ahead now t) →
    (∀ x, before = none → l.head? = some x → 0 < ahead now x.due) → chained now before l = true →
    chained (now + 1#48) before l = true := by
  induction l with
  | nil => exact fun _ _ _ _ _ _ => chained_nil _ _
  | cons x xs ih =>
    intro before n hn hlen hb hbefore hhead hc
    obtain ⟨hx, hxs⟩ := chained_cons.1 hc
    rw [List.length_cons] at hlen
    have hpos : 0 < ahead now x.due := by
      cases hprev : before with
      | none => exact hhead x hprev rfl
      | some t => exact Int.lt_of_lt_of_le (hbefore t hprev) (hx.clear t hprev)
    obtain ⟨hnear, hend⟩ := hx.endsWithin (by omega) hb
    have hn' : 16777215 ≤ n + 65535 := Nat.le_add_right_of_le hn
    have hlen' : n + 65535 + 65535 * xs.length ≤ 2 ^ 30 := by omega
    refine chained_cons.2 ⟨hx.advance hbefore hpos, ih hn' hlen' hend (fun t ht => ?_)
      (fun _ h => nomatch h) hxs⟩
    obtain rfl := Option.some.inj ht
    rw [ahead_plus (by have := hx.width; omega)]
    omega

/-! ### The records (R65) -/

theorem Job.age_none {b : Job} (now : Time) (hd : b.defn = none) : b.age now = b := by simp only [Job.age, hd]

/-- The progress of a MEASURE job, its open interval as old as it is at `now`. -/
def MeasureProgress.age (g : MeasureProgress) (now : Time) : MeasureProgress :=
  { g with interval := g.interval.map (fun i => i.age now) }

theorem MeasureProgress.age_stallReference (g : MeasureProgress) (now : Time) : (g.age now).stallReference = g.stallReference := by
  unfold MeasureProgress.stallReference MeasureProgress.age
  cases g.interval <;> rfl

theorem Job.age_measure {b : Job} {m : MeasureParams} {g : MeasureProgress} (now : Time) (hd : b.defn = some d)
    (hw : d.work = .measure m g) : b.age now = { b with defn := some { d with work := .measure m (g.age now) } } := by
  simp only [Job.age, hd, hw, MeasureProgress.age]

theorem Job.age_other {b : Job} (now : Time) (hd : b.defn = some d) (hkind : d.work.kind ≠ .measure) : b.age now = b := by
  cases hw : d.work with
  | measure m g => rw [hw] at hkind; exact absurd rfl hkind
  | count c g => simp only [Job.age, hd, hw]
  | delay k g => simp only [Job.age, hd, hw]
  | tick k g => simp only [Job.age, hd, hw]
  | wave w g => simp only [Job.age, hd, hw]
  | echo x g => simp only [Job.age, hd, hw]

theorem Part.advance_entriesOf : p.advance.entriesOf j = p.entriesOf j := rfl

/-- A MEASURE job ages: its stall deadline, not yet reached, bounds how far its reference lies behind. -/
theorem Part.advance_measure {m : MeasureParams} {g : MeasureProgress} (hw : p.Waits) (htimed : p.TimedAt j)
    (hd : p.jobs[j].defn = some d) (hwork : d.work = .measure m g) : p.advance.TimedAt j := by
  have hself := (p.advance_job j).trans (Job.age_measure (p.time + 1#48) hd hwork)
  have hrange : (Work.measure m (g.age (p.time + 1#48))).inRange = true := by
    have := htimed.inRange.work hd
    rw [hwork] at this
    exact this
  have hhigh := (Work.inRange_measure hrange).1
  have hq : p.advance.jobs[j].defn = some { d with work := .measure m (g.age (p.time + 1#48)) } := by rw [hself]
  refine Part.timedAt_withWork (w := .measure m (g.age (p.time + 1#48))) hd htimed.inRange hq (.inl (by rw [hself])) (by rw [hwork]; rfl) hrange ?_
    fun e he hpurpose => ?_
  · have hwt := htimed.workTimed hd
    rw [hwork] at hwt
    simp only [Part.workTimed, hself, MeasureProgress.age, Option.isNone_map] at hwt ⊢
    exact hwt
  · obtain ⟨hmem, hjob⟩ := Part.mem_entriesOf.1 he
    obtain ⟨ref, href, hstall, hdue, hle, hge⟩ :=
      (Part.stallTimed_iff (by rw [hjob]; exact (Part.workOf_of_defn hd).trans (congrArg some hwork))).1 (htimed.2 e he hpurpose)
    have hahead := hw.schedule e hmem
    rw [hdue, stallDue, ahead_plus (by omega)] at hahead
    refine (Part.stallTimed_iff (by rw [hjob]; exact Part.workOf_of_defn hq)).2 ⟨ref, (g.age_stallReference _).trans href, hstall, hdue, ?_⟩
    rw [show p.advance.time = p.time + 1#48 from rfl, ahead_advance (by omega)]
    omega

/-- The list and the pulse of an ECHO job, none being due. -/
theorem Part.advance_echo {x : EchoParams} {g : EchoProgress} (hw : p.Waits) (hwork : p.workOf j = some (.echo x g))
    (hself : p.advance.jobs[j] = p.jobs[j]) (h : p.EchoTimed j g) : p.advance.EchoTimed j g := by
  have hfew := h.few
  have hpulse : ∀ u, g.pulse = some u → 0 < ahead p.time u.endTime := fun u hu => hw.pulses j x g u hwork hu
  refine ⟨by rw [hself]; exact h.rests, hfew, ?_, h.head, fun u hu => ?_⟩
  · refine chained_advance (n := 16777215) (Nat.le_refl _) (by omega) h.endsWithin (fun t ht => ?_) (fun y _ hy => ?_) h.chain
    · obtain ⟨u, hu, rfl⟩ := Option.map_eq_some_iff.1 ht
      exact hpulse u hu
    · have hhead := h.head
      rw [hy] at hhead
      obtain ⟨e, he, hdue⟩ := Option.map_eq_some_iff.1 hhead
      rw [← show e.due = y.due from hdue]
      exact hw.schedule e (Part.mem_entriesOf.1 (List.mem_of_head? he)).1
  · obtain ⟨-, hhigh, hends⟩ := h.pulse u hu
    have hpos := hpulse u hu
    have hphase : p.advance.phaseOf j = p.phaseOf j := by simp only [Part.phaseOf, hself]; rfl
    rw [hphase, show p.advance.time = p.time + 1#48 from rfl, ahead_advance (by omega)]
    exact ⟨by omega, by omega, hends⟩

theorem Part.advance_timedAt (ho : p.Orderly) (hw : p.Waits) (htimed : p.TimedAt j) : p.advance.TimedAt j := by
  cases hd : p.jobs[j].defn with
  | none =>
    refine Part.timedAt_of_free (by rw [p.advance_job, Job.age_none _ hd]; exact hd) ?_
    refine (Part.advance_entriesOf (p := p)).trans (Part.entriesOf_idle ho.scheduleLaw ?_)
    rw [Bool.eq_false_iff]
    intro hworks
    obtain ⟨d, hd'⟩ := ho.defn_of_live (JobState.live_of_working hworks)
    rw [hd] at hd'
    cases hd'
  | some d =>
    have hwork := Part.workOf_of_defn hd
    have hwt := htimed.workTimed hd
    by_cases hkind : d.work.kind = .measure
    · cases hmeasure : d.work with
      | measure m g => exact Part.advance_measure hw htimed hd hmeasure
      | count c g => rw [hmeasure] at hkind; cases hkind
      | delay k g => rw [hmeasure] at hkind; cases hkind
      | tick k g => rw [hmeasure] at hkind; cases hkind
      | wave w g => rw [hmeasure] at hkind; cases hkind
      | echo x g => rw [hmeasure] at hkind; cases hkind
    · have hself : p.advance.jobs[j] = p.jobs[j] := (p.advance_job j).trans (Job.age_other _ hd hkind)
      have hstall : d.work.purpose ≠ some .stall := by
        cases hmeasure : d.work with
        | measure m g => rw [hmeasure] at hkind; exact absurd rfl hkind
        | count c g => exact fun h => nomatch h
        | delay k g => exact fun h => nomatch h
        | tick k g => exact fun h => nomatch h
        | wave w g => exact fun h => nomatch h
        | echo x g => exact fun h => nomatch h
      refine Part.timedAt_intro (by rw [hself]; exact hd) (by rw [hself]; exact htimed.inRange) ?_ fun e he hpurpose =>
        absurd hpurpose (Part.entriesOf_noStall ho.scheduleLaw hwork hstall e he)
      cases hcase : d.work with
      | measure m g => rw [hcase] at hkind; exact absurd rfl hkind
      | count c g => rfl
      | wave w g => rfl
      | delay k g => rw [hcase] at hwt; simp only [Part.workTimed, hself] at hwt ⊢; exact hwt
      | tick k g => rw [hcase] at hwt; simp only [Part.workTimed, hself] at hwt ⊢; exact hwt
      | echo x g =>
        have hwork := hwork.trans (congrArg some hcase)
        exact Part.echoTimed_iff.2 (Part.advance_echo hw hwork hself (htimed.echoes hwork))

/-- A microsecond passes while nothing is due. -/
theorem Part.advance_keeps (ho : p.Orderly) (hp : p.TimeLaw) (hw : p.Waits) : p.advance.TimeLaw := by
  obtain ⟨⟨hsorted, hrange⟩, htimed, hlines, -⟩ := p.timeLaw_iff.1 hp
  have hstep : ∀ e ∈ p.schedule, ahead p.advance.time e.due = ahead p.time e.due - 1 := fun e he => by
    have := hw.schedule e he
    exact ahead_advance (by omega)
  refine p.advance.timeLaw_iff.2 ⟨⟨?_, fun e he => ?_⟩, fun j => Part.advance_timedAt ho hw (htimed j), fun i => ?_, fun x hx => ?_⟩
  · refine List.Pairwise.imp_of_mem (fun {a b} ha hb h => ?_) hsorted
    rw [hstep a ha, hstep b hb]
    omega
  · have := hw.schedule e he
    have := hrange e he
    rw [hstep e he]
    omega
  · obtain ⟨hfilter, hchange⟩ := Part.lineTimed_iff.1 (hlines i)
    refine Part.lineTimed_iff.2 ⟨hfilter, fun c hc => ?_⟩
    have hpos := hw.lines i c hc
    have := hchange c hc
    rw [show p.advance.time = p.time + 1#48 from rfl, ahead_advance (by omega)]
    omega
  · rw [show p.advance.deliveries = p.deliveries from rfl, hw.deliveries] at hx
    cases hx

end

end Sys2Proof.Machine
end

section
/-! SUPPORT. Every step keeps the law of due times; the obligation on the schedule (R80, R81, R110). -/

namespace Sys2Proof.Machine

open Sys2Proof

theorem Part.command_keeps {p : Part} {kind : Byte} {act : Part → List Byte → Verdict} (ho : p.Orderly) (hp : p.TimeLaw)
    (h : ∀ (q : Part) (payload : List Byte), q.Orderly → q.TimeLaw → ((act q payload).part q).TimeLaw) :
    (p.command kind act).TimeLaw :=
  Part.intake_keeps ho hp h

/-- A command that changes nothing that is timed. -/
theorem Part.command_timeless {p : Part} {kind : Byte} {act : Part → List Byte → Verdict} (ho : p.Orderly) (hp : p.TimeLaw)
    (h : ∀ (q : Part) (payload : List Byte), Timeless q ((act q payload).part q)) : (p.command kind act).TimeLaw :=
  Part.command_keeps ho hp fun q payload _ hq => hq.timeless (h q payload)

/-- Every step that the machine executes keeps the law of due times. -/
theorem exec_keeps {i : Instr} {s t : State} (ho : s.toPart.Orderly) (hp : s.toPart.TimeLaw) (h : exec i s = .next t) :
    t.toPart.TimeLaw := by
  cases i with
  | ident => cases h; exact Part.command_timeless ho hp fun _ => actIdent_timeless
  | define => cases h; exact Part.command_keeps ho hp fun _ => actDefine_keeps
  | start => cases h; exact Part.command_keeps ho hp fun _ => actStart_keeps
  | stop => cases h; exact Part.command_keeps ho hp fun _ => actStop_keeps
  | hold => cases h; exact Part.command_keeps ho hp fun _ => actHold_keeps
  | resume => cases h; exact Part.command_keeps ho hp fun _ => actResume_keeps
  | alter => cases h; exact Part.command_keeps ho hp fun _ => actAlter_keeps
  | read => cases h; exact Part.command_timeless ho hp fun _ => actRead_timeless
  | delete => cases h; exact Part.command_keeps ho hp fun _ => actDelete_keeps
  | list => cases h; exact Part.command_timeless ho hp fun _ => actList_timeless
  | ack => cases h; exact Part.command_timeless ho hp fun _ => actAck_timeless
  | reconnect => cases h; exact Part.command_timeless ho hp fun _ => actReconnect_timeless
  | linkcfg => cases h; exact Part.command_timeless ho hp fun _ => actLinkcfg_timeless
  | linecfg => cases h; exact Part.command_keeps ho hp fun _ payload _ hq => actLinecfg_keeps payload hq
  | drive => cases h; exact Part.command_timeless ho hp fun _ => actDrive_timeless
  | sense => cases h; exact Part.command_timeless ho hp fun _ => actSense_timeless
  | time => cases h; exact Part.command_timeless ho hp fun _ => actTime_timeless
  | linkstat => cases h; exact Part.command_timeless ho hp fun _ => actLinkstat_timeless
  | reset => cases h; exact Part.command_timeless ho hp fun _ => actReset_timeless
  | unknownKind => cases h; exact Part.intake_keeps ho hp fun _ _ _ hq => hq
  | changeUnderFiltering line level =>
    simp only [exec, execChangeUnderFiltering] at h
    split at h
    · cases h
    · cases h
      dsimp only
      split
      · exact Part.sampleLine_keeps hp _ level
      · exact hp
  | edgeAcceptance line =>
    simp only [exec, execEdgeAcceptance] at h
    split at h
    · cases h
    · cases h
      dsimp only
      split
      · exact Part.acceptDue_keeps hp _
      · exact hp
  | edgeDelivery job =>
    simp only [exec, execEdgeDelivery] at h
    split at h <;> cases h
    exact Part.deliverTo_keeps ho hp
  | expiry => cases h; exact Part.deliverDue_keeps ho hp fun _ _ _ => Part.takeExpiry_keeps
  | tick => cases h; exact Part.deliverDue_keeps ho hp fun _ _ _ => Part.takeTick_keeps
  | stall => cases h; exact Part.deliverDue_keeps ho hp fun _ _ _ => Part.takeStall_keeps
  | windowEnd => cases h; exact Part.deliverDue_keeps ho hp fun _ _ _ => Part.takeWindow_keeps
  | echoDue => cases h; exact Part.deliverDue_keeps ho hp fun _ _ _ => Part.takeEchoDue_keeps
  | activePhaseEvent job =>
    simp only [exec, execActivePhaseEvent] at h
    split at h <;> cases h
    exact Part.activePhaseStep_keeps ho hp
  | periodEnd job =>
    simp only [exec, execPeriodEnd] at h
    split at h <;> cases h
    exact Part.periodStep_keeps ho hp
  | pulseEnd job =>
    simp only [exec, execPulseEnd] at h
    split at h <;> cases h
    exact Part.pulseStep_keeps ho hp
  | turnEnd job =>
    simp only [exec, execTurnEnd] at h
    split at h <;> cases h
    exact Part.turnStep_keeps ho hp
  | retransmitTimerExpiry => cases h; exact hp.timeless Part.timerStep_timeless
  | lossPolicy job =>
    simp only [exec, execLossPolicy] at h
    split at h <;> cases h
    exact Part.lossStep_keeps ho hp
  | byteReceived byte => cases h; exact hp.timeless (Part.byteStep_timeless byte)
  | gapExpiry => cases h; exact hp.timeless Part.gapStep_timeless
  | breakSeen => cases h; exact hp.timeless Part.breakStep_timeless
  | txFrameEnd => cases h; exact hp.timeless Part.frameEndStep_timeless
  | commandResetExecution inputs => cases h; exact Part.commandResetStep_keeps inputs hp
  | pinReset => cases h; exact Part.pinResetStep_keeps hp
  | pinResetCompletion straps inputs => cases h; exact Part.pinCompletionStep_keeps straps inputs hp
  | powerOnReset => cases h; exact Part.inReset_timeLaw .power
  | powerOnResetCompletion straps inputs => cases h; exact Part.powerCompletionStep_keeps straps inputs hp
  | breakEnd => cases h; exact hp.timeless Part.breakEndStep_timeless
  | refclkStopped => cases h; exact hp.timeless ⟨rfl, rfl, fun _ h => h, rfl, rfl, rfl⟩
  | refclkResumed =>
    cases h
    exact hp.timeless (Timeless.trans (q := { s.toPart with refclk := true }) ⟨rfl, rfl, fun _ h => h, rfl, rfl, rfl⟩ .arbitrate)

theorem idle_keeps {s t : State} (ho : s.toPart.Orderly) (hp : s.toPart.TimeLaw) (h : idle s = .next t) : t.toPart.TimeLaw := by
  unfold idle at h
  split at h
  · cases h; exact hp.timeless .arbitrate
  · split at h
    · next hnone =>
      split at h <;> cases h
      · next hclock => exact Part.advance_keeps ho hp (waits_of_enabled hp hclock hnone)
      · exact hp
    · exact exec_keeps ho hp h
    · have hchosen : Timeless s.toPart { s.toPart with choices := s.choices + 1 } := ⟨rfl, rfl, fun _ h => h, rfl, rfl, rfl⟩
      have hmove : Move s.toPart { s.toPart with choices := s.choices + 1 } := .other rfl rfl rfl rfl rfl rfl
      exact exec_keeps (s := { s with choices := s.choices + 1 }) (ho.moves (.single hmove)) (hp.timeless hchosen) h

/-- Every step of a part in order keeps the law of due times. -/
theorem step_keeps {s t : State} (ho : s.toPart.Orderly) (hp : s.toPart.TimeLaw) (h : step s = .next t) : t.toPart.TimeLaw := by
  unfold step at h
  split at h
  · exact idle_keeps ho hp h
  · next i rest _ => exact exec_keeps (s := { s with pending := rest }) ho hp h

/-- Settles O56: every move keeps the schedule law, and every step keeps the law of due times, the others holding. -/
theorem stepKeepsScheduleLaw : Obligations.StepKeepsScheduleLaw := by
  refine ⟨fun _ _ hs h => (step_moves h).keep Move.scheduleLaw hs, fun s t hsound hs h => step_keeps ?_ hs h⟩
  obtain ⟨hreservation, hqueue, hschedule, houtput, hcell, hrecord, -⟩ := hsound
  exact ⟨hreservation, hqueue, hschedule, houtput, hcell, hrecord⟩

end Sys2Proof.Machine
end
